-- ==== Sys2Proof/Word.lean ====
section
/-! DEFINITION. The words of the decoder block (spec/00_scope.md R5, R6, R8): an 8-bit byte, a 16-bit CPU address,
and ASCII text. Buffer offsets are counts, so they are `Nat` (R5 leaves their width OPEN; R6: arithmetic on offsets is
on unbounded integers). -/

namespace Sys2Proof

/-- `Byte` of R6: 8 bits (`BYTE_BITS`, R5). -/
abbrev Byte := BitVec 8

/-- `Addr16` of R6: 16 bits (`ADDR_BITS`, R5). -/
abbrev Addr := BitVec 16

/-- A text value: a finite sequence of characters. That those of every record are ASCII (R8) is part of the invariant
(`State.Inv.ascii` in Safety.lean). -/
abbrev Text := List Char

end Sys2Proof
end

