-- ==== Sys2Proof/Syntax.lean ====
section
/-! DEFINITION. What the block decodes and what it is told: the 13 addressing modes and three formats
(spec/30_encoding.md R61, R62, R66), the entry of the opcode ROM (spec/40_opcode_lookup.md R100, R101), the
instructions (one constructor for each row of spec/opcode_table.json, R60, R67) and the operands of the Start command
(spec/10_state.md R27). -/

namespace Sys2Proof

/-- The three instruction formats of R61, of 1, 2 and 3 bytes. -/
inductive Format where
  | f1
  | f2
  | f3
deriving DecidableEq, Repr

/-- The closed list of the 13 addressing modes (R62), in the source's order. -/
inductive Mode where
  | immediate
  | absolute
  | zeroPage
  | accumulator
  | implied
  | indexedIndirect
  | indirectIndexed
  | zeroPageX
  | zeroPageY
  | absoluteX
  | absoluteY
  | relative
  | indirect
deriving DecidableEq, Repr

/-- An entry of the opcode ROM (R100, R101): the logical record. How a ROM word packs it is left open (D20), and no
rule observes it. -/
structure OpcodeEntry where
  mnemonic : Text
  mode     : Mode
  illegal  : Bool
deriving DecidableEq, Repr

/-- The operands that come with a Start command (R27, R110), besides the buffer, which is read in place. -/
structure Request where
  /-- `LOAD`: the CPU address of buffer offset 0. -/
  load  : Addr
  /-- `START`: the offset of the first opcode byte. -/
  start : Nat
  /-- `LEN`: the logical data's length, without the pad (spec/90_conflicts.md C2). -/
  len   : Nat
deriving DecidableEq, Repr

/-- The instructions: one constructor for each row of spec/opcode_table.json, those with operand bytes first and the
1-byte ones of format F1 last (Lean's compiler numbers constructors with fields only up to 244), each group in the
order of the opcode byte. A name is the row's mnemonic, with `x` before it where the row is undocumented (`illegal`),
then the abbreviation that R67 uses for the mode, then the opcode byte where mnemonic and mode are shared by several
rows. The operand fields are those of R61: `o` of format F2, `lo` and `hi` of format F3. -/
inductive Instr where
  | oraIzx (o : Byte)
  | xSloIzx (o : Byte)
  | xNopZp04 (o : Byte)
  | oraZp (o : Byte)
  | aslZp (o : Byte)
  | xSloZp (o : Byte)
  | oraImm (o : Byte)
  | xAncImm0B (o : Byte)
  | xNopAbs (lo hi : Byte)
  | oraAbs (lo hi : Byte)
  | aslAbs (lo hi : Byte)
  | xSloAbs (lo hi : Byte)
  | bplRel (o : Byte)
  | oraIzy (o : Byte)
  | xSloIzy (o : Byte)
  | xNopZpx14 (o : Byte)
  | oraZpx (o : Byte)
  | aslZpx (o : Byte)
  | xSloZpx (o : Byte)
  | oraAby (lo hi : Byte)
  | xSloAby (lo hi : Byte)
  | xNopAbx1C (lo hi : Byte)
  | oraAbx (lo hi : Byte)
  | aslAbx (lo hi : Byte)
  | xSloAbx (lo hi : Byte)
  | jsrAbs (lo hi : Byte)
  | andIzx (o : Byte)
  | xRlaIzx (o : Byte)
  | bitZp (o : Byte)
  | andZp (o : Byte)
  | rolZp (o : Byte)
  | xRlaZp (o : Byte)
  | andImm (o : Byte)
  | xAncImm2B (o : Byte)
  | bitAbs (lo hi : Byte)
  | andAbs (lo hi : Byte)
  | rolAbs (lo hi : Byte)
  | xRlaAbs (lo hi : Byte)
  | bmiRel (o : Byte)
  | andIzy (o : Byte)
  | xRlaIzy (o : Byte)
  | xNopZpx34 (o : Byte)
  | andZpx (o : Byte)
  | rolZpx (o : Byte)
  | xRlaZpx (o : Byte)
  | andAby (lo hi : Byte)
  | xRlaAby (lo hi : Byte)
  | xNopAbx3C (lo hi : Byte)
  | andAbx (lo hi : Byte)
  | rolAbx (lo hi : Byte)
  | xRlaAbx (lo hi : Byte)
  | eorIzx (o : Byte)
  | xSreIzx (o : Byte)
  | xNopZp44 (o : Byte)
  | eorZp (o : Byte)
  | lsrZp (o : Byte)
  | xSreZp (o : Byte)
  | eorImm (o : Byte)
  | xAlrImm (o : Byte)
  | jmpAbs (lo hi : Byte)
  | eorAbs (lo hi : Byte)
  | lsrAbs (lo hi : Byte)
  | xSreAbs (lo hi : Byte)
  | bvcRel (o : Byte)
  | eorIzy (o : Byte)
  | xSreIzy (o : Byte)
  | xNopZpx54 (o : Byte)
  | eorZpx (o : Byte)
  | lsrZpx (o : Byte)
  | xSreZpx (o : Byte)
  | eorAby (lo hi : Byte)
  | xSreAby (lo hi : Byte)
  | xNopAbx5C (lo hi : Byte)
  | eorAbx (lo hi : Byte)
  | lsrAbx (lo hi : Byte)
  | xSreAbx (lo hi : Byte)
  | adcIzx (o : Byte)
  | xRraIzx (o : Byte)
  | xNopZp64 (o : Byte)
  | adcZp (o : Byte)
  | rorZp (o : Byte)
  | xRraZp (o : Byte)
  | adcImm (o : Byte)
  | xArrImm (o : Byte)
  | jmpInd (lo hi : Byte)
  | adcAbs (lo hi : Byte)
  | rorAbs (lo hi : Byte)
  | xRraAbs (lo hi : Byte)
  | bvsRel (o : Byte)
  | adcIzy (o : Byte)
  | xRraIzy (o : Byte)
  | xNopZpx74 (o : Byte)
  | adcZpx (o : Byte)
  | rorZpx (o : Byte)
  | xRraZpx (o : Byte)
  | adcAby (lo hi : Byte)
  | xRraAby (lo hi : Byte)
  | xNopAbx7C (lo hi : Byte)
  | adcAbx (lo hi : Byte)
  | rorAbx (lo hi : Byte)
  | xRraAbx (lo hi : Byte)
  | xNopImm80 (o : Byte)
  | staIzx (o : Byte)
  | xNopImm82 (o : Byte)
  | xSaxIzx (o : Byte)
  | styZp (o : Byte)
  | staZp (o : Byte)
  | stxZp (o : Byte)
  | xSaxZp (o : Byte)
  | xNopImm89 (o : Byte)
  | xXaaImm (o : Byte)
  | styAbs (lo hi : Byte)
  | staAbs (lo hi : Byte)
  | stxAbs (lo hi : Byte)
  | xSaxAbs (lo hi : Byte)
  | bccRel (o : Byte)
  | staIzy (o : Byte)
  | xAhxIzy (o : Byte)
  | styZpx (o : Byte)
  | staZpx (o : Byte)
  | stxZpy (o : Byte)
  | xSaxZpy (o : Byte)
  | staAby (lo hi : Byte)
  | xTasAby (lo hi : Byte)
  | xShyAbx (lo hi : Byte)
  | staAbx (lo hi : Byte)
  | xShxAby (lo hi : Byte)
  | xAhxAby (lo hi : Byte)
  | ldyImm (o : Byte)
  | ldaIzx (o : Byte)
  | ldxImm (o : Byte)
  | xLaxIzx (o : Byte)
  | ldyZp (o : Byte)
  | ldaZp (o : Byte)
  | ldxZp (o : Byte)
  | xLaxZp (o : Byte)
  | ldaImm (o : Byte)
  | xLaxImm (o : Byte)
  | ldyAbs (lo hi : Byte)
  | ldaAbs (lo hi : Byte)
  | ldxAbs (lo hi : Byte)
  | xLaxAbs (lo hi : Byte)
  | bcsRel (o : Byte)
  | ldaIzy (o : Byte)
  | xLaxIzy (o : Byte)
  | ldyZpx (o : Byte)
  | ldaZpx (o : Byte)
  | ldxZpy (o : Byte)
  | xLaxZpy (o : Byte)
  | ldaAby (lo hi : Byte)
  | xLasAby (lo hi : Byte)
  | ldyAbx (lo hi : Byte)
  | ldaAbx (lo hi : Byte)
  | ldxAby (lo hi : Byte)
  | xLaxAby (lo hi : Byte)
  | cpyImm (o : Byte)
  | cmpIzx (o : Byte)
  | xNopImmC2 (o : Byte)
  | xDcpIzx (o : Byte)
  | cpyZp (o : Byte)
  | cmpZp (o : Byte)
  | decZp (o : Byte)
  | xDcpZp (o : Byte)
  | cmpImm (o : Byte)
  | xAxsImm (o : Byte)
  | cpyAbs (lo hi : Byte)
  | cmpAbs (lo hi : Byte)
  | decAbs (lo hi : Byte)
  | xDcpAbs (lo hi : Byte)
  | bneRel (o : Byte)
  | cmpIzy (o : Byte)
  | xDcpIzy (o : Byte)
  | xNopZpxD4 (o : Byte)
  | cmpZpx (o : Byte)
  | decZpx (o : Byte)
  | xDcpZpx (o : Byte)
  | cmpAby (lo hi : Byte)
  | xDcpAby (lo hi : Byte)
  | xNopAbxDC (lo hi : Byte)
  | cmpAbx (lo hi : Byte)
  | decAbx (lo hi : Byte)
  | xDcpAbx (lo hi : Byte)
  | cpxImm (o : Byte)
  | sbcIzx (o : Byte)
  | xNopImmE2 (o : Byte)
  | xIscIzx (o : Byte)
  | cpxZp (o : Byte)
  | sbcZp (o : Byte)
  | incZp (o : Byte)
  | xIscZp (o : Byte)
  | sbcImm (o : Byte)
  | xSbcImm (o : Byte)
  | cpxAbs (lo hi : Byte)
  | sbcAbs (lo hi : Byte)
  | incAbs (lo hi : Byte)
  | xIscAbs (lo hi : Byte)
  | beqRel (o : Byte)
  | sbcIzy (o : Byte)
  | xIscIzy (o : Byte)
  | xNopZpxF4 (o : Byte)
  | sbcZpx (o : Byte)
  | incZpx (o : Byte)
  | xIscZpx (o : Byte)
  | sbcAby (lo hi : Byte)
  | xIscAby (lo hi : Byte)
  | xNopAbxFC (lo hi : Byte)
  | sbcAbx (lo hi : Byte)
  | incAbx (lo hi : Byte)
  | xIscAbx (lo hi : Byte)
  | brkImp
  | xKilImp02
  | phpImp
  | aslAcc
  | xKilImp12
  | clcImp
  | xNopImp1A
  | xKilImp22
  | plpImp
  | rolAcc
  | xKilImp32
  | secImp
  | xNopImp3A
  | rtiImp
  | xKilImp42
  | phaImp
  | lsrAcc
  | xKilImp52
  | cliImp
  | xNopImp5A
  | rtsImp
  | xKilImp62
  | plaImp
  | rorAcc
  | xKilImp72
  | seiImp
  | xNopImp7A
  | deyImp
  | txaImp
  | xKilImp92
  | tyaImp
  | txsImp
  | tayImp
  | taxImp
  | xKilImpB2
  | clvImp
  | tsxImp
  | inyImp
  | dexImp
  | xKilImpD2
  | cldImp
  | xNopImpDA
  | inxImp
  | nopImp
  | xKilImpF2
  | sedImp
  | xNopImpFA
deriving DecidableEq, Repr

end Sys2Proof
end

