-- ==== Sys2Proof/Machine/Rom.lean ====
section
/-! DEFINITION. The opcode ROM as a configuration table of 256 entries (spec/40_opcode_lookup.md R100 to R104): how it is
read, and its default, the map of spec/30_encoding.md R67, one definition for each row of the map. PRESUMED: all default
entries but 0x10, 0xA9 and 0x4C are general knowledge (R103; assumption 11).
Before it, what the format and mode names stand for (spec/30_encoding.md R61, R62, R66). -/

namespace Sys2Proof

/-- Operand bytes of a format (R61). -/
def Format.operandBytes : Format → Nat
  | .f1 => 0
  | .f2 => 1
  | .f3 => 2

/-- The mode codes of R66 and R62; 13, 14 and 15 are no mode's. -/
def Mode.code : Mode → BitVec 4
  | .immediate => 0
  | .absolute => 1
  | .zeroPage => 2
  | .accumulator => 3
  | .implied => 4
  | .indexedIndirect => 5
  | .indirectIndexed => 6
  | .zeroPageX => 7
  | .zeroPageY => 8
  | .absoluteX => 9
  | .absoluteY => 10
  | .relative => 11
  | .indirect => 12

/-- The "format" column of R62's table. -/
def Mode.format : Mode → Format
  | .immediate => .f2
  | .absolute => .f3
  | .zeroPage => .f2
  | .accumulator => .f1
  | .implied => .f1
  | .indexedIndirect => .f2
  | .indirectIndexed => .f2
  | .zeroPageX => .f2
  | .zeroPageY => .f2
  | .absoluteX => .f3
  | .absoluteY => .f3
  | .relative => .f2
  | .indirect => .f3

/-- `operand_bytes(mode)` of R62. -/
def Mode.operandBytes (m : Mode) : Nat := m.format.operandBytes

end Sys2Proof

namespace Sys2Proof.Machine

/-- A ROM: 256 entries (R43, R101), as R67 draws them: 16 rows, one for each high half of the opcode byte, of 16 columns,
one for each low half. -/
abbrev OpcodeRom := Vector (Vector OpcodeEntry 16) 16

/-- `lookup(b) = ROM[b]` (R100): total, no side effect, no failure mode. -/
def lookup (rom : OpcodeRom) (b : Byte) : OpcodeEntry := rom[b.toNat / 16][b.toNat % 16]

/-- A documented entry: upper-case mnemonic, `illegal = false` (R68, R72). -/
def documented (a b c : Char) (m : Mode) : OpcodeEntry := ⟨[a, b, c], m, false⟩

/-- An undocumented entry: lower-case mnemonic in its default spelling, `illegal = true` (R68, R72, R281). -/
def undocumented (a b c : Char) (m : Mode) : OpcodeEntry := ⟨[a, b, c], m, true⟩

/-- Opcodes 0x00 to 0x0F (R67, row 0x). -/
def romRow0 : Vector OpcodeEntry 16 :=
  #v[documented 'B' 'R' 'K' .implied,
     documented 'O' 'R' 'A' .indexedIndirect,
     undocumented 'k' 'i' 'l' .implied,
     undocumented 's' 'l' 'o' .indexedIndirect,
     undocumented 'n' 'o' 'p' .zeroPage,
     documented 'O' 'R' 'A' .zeroPage,
     documented 'A' 'S' 'L' .zeroPage,
     undocumented 's' 'l' 'o' .zeroPage,
     documented 'P' 'H' 'P' .implied,
     documented 'O' 'R' 'A' .immediate,
     documented 'A' 'S' 'L' .accumulator,
     undocumented 'a' 'n' 'c' .immediate,
     undocumented 'n' 'o' 'p' .absolute,
     documented 'O' 'R' 'A' .absolute,
     documented 'A' 'S' 'L' .absolute,
     undocumented 's' 'l' 'o' .absolute]

/-- Opcodes 0x10 to 0x1F (R67, row 1x). -/
def romRow1 : Vector OpcodeEntry 16 :=
  #v[documented 'B' 'P' 'L' .relative,
     documented 'O' 'R' 'A' .indirectIndexed,
     undocumented 'k' 'i' 'l' .implied,
     undocumented 's' 'l' 'o' .indirectIndexed,
     undocumented 'n' 'o' 'p' .zeroPageX,
     documented 'O' 'R' 'A' .zeroPageX,
     documented 'A' 'S' 'L' .zeroPageX,
     undocumented 's' 'l' 'o' .zeroPageX,
     documented 'C' 'L' 'C' .implied,
     documented 'O' 'R' 'A' .absoluteY,
     undocumented 'n' 'o' 'p' .implied,
     undocumented 's' 'l' 'o' .absoluteY,
     undocumented 'n' 'o' 'p' .absoluteX,
     documented 'O' 'R' 'A' .absoluteX,
     documented 'A' 'S' 'L' .absoluteX,
     undocumented 's' 'l' 'o' .absoluteX]

/-- Opcodes 0x20 to 0x2F (R67, row 2x). -/
def romRow2 : Vector OpcodeEntry 16 :=
  #v[documented 'J' 'S' 'R' .absolute,
     documented 'A' 'N' 'D' .indexedIndirect,
     undocumented 'k' 'i' 'l' .implied,
     undocumented 'r' 'l' 'a' .indexedIndirect,
     documented 'B' 'I' 'T' .zeroPage,
     documented 'A' 'N' 'D' .zeroPage,
     documented 'R' 'O' 'L' .zeroPage,
     undocumented 'r' 'l' 'a' .zeroPage,
     documented 'P' 'L' 'P' .implied,
     documented 'A' 'N' 'D' .immediate,
     documented 'R' 'O' 'L' .accumulator,
     undocumented 'a' 'n' 'c' .immediate,
     documented 'B' 'I' 'T' .absolute,
     documented 'A' 'N' 'D' .absolute,
     documented 'R' 'O' 'L' .absolute,
     undocumented 'r' 'l' 'a' .absolute]

/-- Opcodes 0x30 to 0x3F (R67, row 3x). -/
def romRow3 : Vector OpcodeEntry 16 :=
  #v[documented 'B' 'M' 'I' .relative,
     documented 'A' 'N' 'D' .indirectIndexed,
     undocumented 'k' 'i' 'l' .implied,
     undocumented 'r' 'l' 'a' .indirectIndexed,
     undocumented 'n' 'o' 'p' .zeroPageX,
     documented 'A' 'N' 'D' .zeroPageX,
     documented 'R' 'O' 'L' .zeroPageX,
     undocumented 'r' 'l' 'a' .zeroPageX,
     documented 'S' 'E' 'C' .implied,
     documented 'A' 'N' 'D' .absoluteY,
     undocumented 'n' 'o' 'p' .implied,
     undocumented 'r' 'l' 'a' .absoluteY,
     undocumented 'n' 'o' 'p' .absoluteX,
     documented 'A' 'N' 'D' .absoluteX,
     documented 'R' 'O' 'L' .absoluteX,
     undocumented 'r' 'l' 'a' .absoluteX]

/-- Opcodes 0x40 to 0x4F (R67, row 4x). -/
def romRow4 : Vector OpcodeEntry 16 :=
  #v[documented 'R' 'T' 'I' .implied,
     documented 'E' 'O' 'R' .indexedIndirect,
     undocumented 'k' 'i' 'l' .implied,
     undocumented 's' 'r' 'e' .indexedIndirect,
     undocumented 'n' 'o' 'p' .zeroPage,
     documented 'E' 'O' 'R' .zeroPage,
     documented 'L' 'S' 'R' .zeroPage,
     undocumented 's' 'r' 'e' .zeroPage,
     documented 'P' 'H' 'A' .implied,
     documented 'E' 'O' 'R' .immediate,
     documented 'L' 'S' 'R' .accumulator,
     undocumented 'a' 'l' 'r' .immediate,
     documented 'J' 'M' 'P' .absolute,
     documented 'E' 'O' 'R' .absolute,
     documented 'L' 'S' 'R' .absolute,
     undocumented 's' 'r' 'e' .absolute]

/-- Opcodes 0x50 to 0x5F (R67, row 5x). -/
def romRow5 : Vector OpcodeEntry 16 :=
  #v[documented 'B' 'V' 'C' .relative,
     documented 'E' 'O' 'R' .indirectIndexed,
     undocumented 'k' 'i' 'l' .implied,
     undocumented 's' 'r' 'e' .indirectIndexed,
     undocumented 'n' 'o' 'p' .zeroPageX,
     documented 'E' 'O' 'R' .zeroPageX,
     documented 'L' 'S' 'R' .zeroPageX,
     undocumented 's' 'r' 'e' .zeroPageX,
     documented 'C' 'L' 'I' .implied,
     documented 'E' 'O' 'R' .absoluteY,
     undocumented 'n' 'o' 'p' .implied,
     undocumented 's' 'r' 'e' .absoluteY,
     undocumented 'n' 'o' 'p' .absoluteX,
     documented 'E' 'O' 'R' .absoluteX,
     documented 'L' 'S' 'R' .absoluteX,
     undocumented 's' 'r' 'e' .absoluteX]

/-- Opcodes 0x60 to 0x6F (R67, row 6x). -/
def romRow6 : Vector OpcodeEntry 16 :=
  #v[documented 'R' 'T' 'S' .implied,
     documented 'A' 'D' 'C' .indexedIndirect,
     undocumented 'k' 'i' 'l' .implied,
     undocumented 'r' 'r' 'a' .indexedIndirect,
     undocumented 'n' 'o' 'p' .zeroPage,
     documented 'A' 'D' 'C' .zeroPage,
     documented 'R' 'O' 'R' .zeroPage,
     undocumented 'r' 'r' 'a' .zeroPage,
     documented 'P' 'L' 'A' .implied,
     documented 'A' 'D' 'C' .immediate,
     documented 'R' 'O' 'R' .accumulator,
     undocumented 'a' 'r' 'r' .immediate,
     documented 'J' 'M' 'P' .indirect,
     documented 'A' 'D' 'C' .absolute,
     documented 'R' 'O' 'R' .absolute,
     undocumented 'r' 'r' 'a' .absolute]

/-- Opcodes 0x70 to 0x7F (R67, row 7x). -/
def romRow7 : Vector OpcodeEntry 16 :=
  #v[documented 'B' 'V' 'S' .relative,
     documented 'A' 'D' 'C' .indirectIndexed,
     undocumented 'k' 'i' 'l' .implied,
     undocumented 'r' 'r' 'a' .indirectIndexed,
     undocumented 'n' 'o' 'p' .zeroPageX,
     documented 'A' 'D' 'C' .zeroPageX,
     documented 'R' 'O' 'R' .zeroPageX,
     undocumented 'r' 'r' 'a' .zeroPageX,
     documented 'S' 'E' 'I' .implied,
     documented 'A' 'D' 'C' .absoluteY,
     undocumented 'n' 'o' 'p' .implied,
     undocumented 'r' 'r' 'a' .absoluteY,
     undocumented 'n' 'o' 'p' .absoluteX,
     documented 'A' 'D' 'C' .absoluteX,
     documented 'R' 'O' 'R' .absoluteX,
     undocumented 'r' 'r' 'a' .absoluteX]

/-- Opcodes 0x80 to 0x8F (R67, row 8x). -/
def romRow8 : Vector OpcodeEntry 16 :=
  #v[undocumented 'n' 'o' 'p' .immediate,
     documented 'S' 'T' 'A' .indexedIndirect,
     undocumented 'n' 'o' 'p' .immediate,
     undocumented 's' 'a' 'x' .indexedIndirect,
     documented 'S' 'T' 'Y' .zeroPage,
     documented 'S' 'T' 'A' .zeroPage,
     documented 'S' 'T' 'X' .zeroPage,
     undocumented 's' 'a' 'x' .zeroPage,
     documented 'D' 'E' 'Y' .implied,
     undocumented 'n' 'o' 'p' .immediate,
     documented 'T' 'X' 'A' .implied,
     undocumented 'x' 'a' 'a' .immediate,
     documented 'S' 'T' 'Y' .absolute,
     documented 'S' 'T' 'A' .absolute,
     documented 'S' 'T' 'X' .absolute,
     undocumented 's' 'a' 'x' .absolute]

/-- Opcodes 0x90 to 0x9F (R67, row 9x). -/
def romRow9 : Vector OpcodeEntry 16 :=
  #v[documented 'B' 'C' 'C' .relative,
     documented 'S' 'T' 'A' .indirectIndexed,
     undocumented 'k' 'i' 'l' .implied,
     undocumented 'a' 'h' 'x' .indirectIndexed,
     documented 'S' 'T' 'Y' .zeroPageX,
     documented 'S' 'T' 'A' .zeroPageX,
     documented 'S' 'T' 'X' .zeroPageY,
     undocumented 's' 'a' 'x' .zeroPageY,
     documented 'T' 'Y' 'A' .implied,
     documented 'S' 'T' 'A' .absoluteY,
     documented 'T' 'X' 'S' .implied,
     undocumented 't' 'a' 's' .absoluteY,
     undocumented 's' 'h' 'y' .absoluteX,
     documented 'S' 'T' 'A' .absoluteX,
     undocumented 's' 'h' 'x' .absoluteY,
     undocumented 'a' 'h' 'x' .absoluteY]

/-- Opcodes 0xA0 to 0xAF (R67, row Ax). -/
def romRowA : Vector OpcodeEntry 16 :=
  #v[documented 'L' 'D' 'Y' .immediate,
     documented 'L' 'D' 'A' .indexedIndirect,
     documented 'L' 'D' 'X' .immediate,
     undocumented 'l' 'a' 'x' .indexedIndirect,
     documented 'L' 'D' 'Y' .zeroPage,
     documented 'L' 'D' 'A' .zeroPage,
     documented 'L' 'D' 'X' .zeroPage,
     undocumented 'l' 'a' 'x' .zeroPage,
     documented 'T' 'A' 'Y' .implied,
     documented 'L' 'D' 'A' .immediate,
     documented 'T' 'A' 'X' .implied,
     undocumented 'l' 'a' 'x' .immediate,
     documented 'L' 'D' 'Y' .absolute,
     documented 'L' 'D' 'A' .absolute,
     documented 'L' 'D' 'X' .absolute,
     undocumented 'l' 'a' 'x' .absolute]

/-- Opcodes 0xB0 to 0xBF (R67, row Bx). -/
def romRowB : Vector OpcodeEntry 16 :=
  #v[documented 'B' 'C' 'S' .relative,
     documented 'L' 'D' 'A' .indirectIndexed,
     undocumented 'k' 'i' 'l' .implied,
     undocumented 'l' 'a' 'x' .indirectIndexed,
     documented 'L' 'D' 'Y' .zeroPageX,
     documented 'L' 'D' 'A' .zeroPageX,
     documented 'L' 'D' 'X' .zeroPageY,
     undocumented 'l' 'a' 'x' .zeroPageY,
     documented 'C' 'L' 'V' .implied,
     documented 'L' 'D' 'A' .absoluteY,
     documented 'T' 'S' 'X' .implied,
     undocumented 'l' 'a' 's' .absoluteY,
     documented 'L' 'D' 'Y' .absoluteX,
     documented 'L' 'D' 'A' .absoluteX,
     documented 'L' 'D' 'X' .absoluteY,
     undocumented 'l' 'a' 'x' .absoluteY]

/-- Opcodes 0xC0 to 0xCF (R67, row Cx). -/
def romRowC : Vector OpcodeEntry 16 :=
  #v[documented 'C' 'P' 'Y' .immediate,
     documented 'C' 'M' 'P' .indexedIndirect,
     undocumented 'n' 'o' 'p' .immediate,
     undocumented 'd' 'c' 'p' .indexedIndirect,
     documented 'C' 'P' 'Y' .zeroPage,
     documented 'C' 'M' 'P' .zeroPage,
     documented 'D' 'E' 'C' .zeroPage,
     undocumented 'd' 'c' 'p' .zeroPage,
     documented 'I' 'N' 'Y' .implied,
     documented 'C' 'M' 'P' .immediate,
     documented 'D' 'E' 'X' .implied,
     undocumented 'a' 'x' 's' .immediate,
     documented 'C' 'P' 'Y' .absolute,
     documented 'C' 'M' 'P' .absolute,
     documented 'D' 'E' 'C' .absolute,
     undocumented 'd' 'c' 'p' .absolute]

/-- Opcodes 0xD0 to 0xDF (R67, row Dx). -/
def romRowD : Vector OpcodeEntry 16 :=
  #v[documented 'B' 'N' 'E' .relative,
     documented 'C' 'M' 'P' .indirectIndexed,
     undocumented 'k' 'i' 'l' .implied,
     undocumented 'd' 'c' 'p' .indirectIndexed,
     undocumented 'n' 'o' 'p' .zeroPageX,
     documented 'C' 'M' 'P' .zeroPageX,
     documented 'D' 'E' 'C' .zeroPageX,
     undocumented 'd' 'c' 'p' .zeroPageX,
     documented 'C' 'L' 'D' .implied,
     documented 'C' 'M' 'P' .absoluteY,
     undocumented 'n' 'o' 'p' .implied,
     undocumented 'd' 'c' 'p' .absoluteY,
     undocumented 'n' 'o' 'p' .absoluteX,
     documented 'C' 'M' 'P' .absoluteX,
     documented 'D' 'E' 'C' .absoluteX,
     undocumented 'd' 'c' 'p' .absoluteX]

/-- Opcodes 0xE0 to 0xEF (R67, row Ex). -/
def romRowE : Vector OpcodeEntry 16 :=
  #v[documented 'C' 'P' 'X' .immediate,
     documented 'S' 'B' 'C' .indexedIndirect,
     undocumented 'n' 'o' 'p' .immediate,
     undocumented 'i' 's' 'c' .indexedIndirect,
     documented 'C' 'P' 'X' .zeroPage,
     documented 'S' 'B' 'C' .zeroPage,
     documented 'I' 'N' 'C' .zeroPage,
     undocumented 'i' 's' 'c' .zeroPage,
     documented 'I' 'N' 'X' .implied,
     documented 'S' 'B' 'C' .immediate,
     documented 'N' 'O' 'P' .implied,
     undocumented 's' 'b' 'c' .immediate,
     documented 'C' 'P' 'X' .absolute,
     documented 'S' 'B' 'C' .absolute,
     documented 'I' 'N' 'C' .absolute,
     undocumented 'i' 's' 'c' .absolute]

/-- Opcodes 0xF0 to 0xFF (R67, row Fx). -/
def romRowF : Vector OpcodeEntry 16 :=
  #v[documented 'B' 'E' 'Q' .relative,
     documented 'S' 'B' 'C' .indirectIndexed,
     undocumented 'k' 'i' 'l' .implied,
     undocumented 'i' 's' 'c' .indirectIndexed,
     undocumented 'n' 'o' 'p' .zeroPageX,
     documented 'S' 'B' 'C' .zeroPageX,
     documented 'I' 'N' 'C' .zeroPageX,
     undocumented 'i' 's' 'c' .zeroPageX,
     documented 'S' 'E' 'D' .implied,
     documented 'S' 'B' 'C' .absoluteY,
     undocumented 'n' 'o' 'p' .implied,
     undocumented 'i' 's' 'c' .absoluteY,
     undocumented 'n' 'o' 'p' .absoluteX,
     documented 'S' 'B' 'C' .absoluteX,
     documented 'I' 'N' 'C' .absoluteX,
     undocumented 'i' 's' 'c' .absoluteX]

/-- The default ROM: the map of R67, which spec/opcode_table.json repeats (R103). -/
def defaultRom : OpcodeRom :=
  #v[romRow0, romRow1, romRow2, romRow3, romRow4, romRow5, romRow6, romRow7,
     romRow8, romRow9, romRowA, romRowB, romRowC, romRowD, romRowE, romRowF]

end Sys2Proof.Machine
end

