-- ==== Sys2Proof/Config.lean ====
section
/-! DEFINITION. The implementation parameters of spec/00_scope.md R5. `pad` is fixed by the source. The four OPEN
parameters (`BUF_SIZE`, `OFFSET_BITS`, `ILLEGAL_MNEMONICS`, `REL_FORMAT`) and the opcode ROM, which is a configuration
table (spec/30_encoding.md R67, spec/40_opcode_lookup.md R104, spec/93_implementation_defined.md U15), are plain data of
the machine: `Params`, a constant part of State that no step writes, so every statement about all states is a statement
about every choice of them. -/

namespace Sys2Proof

/-- `PAD` of R5: the bytes past the logical data that the last instruction's operand may read. -/
abbrev Config.pad : Nat := 2

/-- The text of a relative operand in a layout other than the default (`REL_FORMAT` is OPEN, R5 and D7): one
uninterpreted function of the target and the displacement for each layout number. It has no body, so nothing can be
proved about the text it gives but that it is ASCII (R8), since it gives 7-bit characters (assumption 4). -/
opaque Config.otherRelText : Nat → Addr → Int → List (BitVec 7)

/-- `REL_FORMAT` (R5, R145): the spec's default layout, or another one, known only by a number. -/
inductive RelFormat where
  | standard
  | other (layout : Nat)
deriving DecidableEq, Repr

/-- The OPEN implementation parameters of R5, and the ROM. -/
structure Params where
  /-- `BUF_SIZE`: the number of bytes of the buffer port (D12). -/
  bufSize : Nat
  /-- `OFFSET_BITS`: the width of START, LEN and the cursor (D13). -/
  offsetBits : Nat
  /-- `ILLEGAL_MNEMONICS` (R281): pairs of a default spelling and the spelling emitted instead; a default spelling
  that no pair names keeps its own, so the empty list is the identity map. -/
  illegalMnemonics : List (Text × Text)
  /-- `REL_FORMAT` (R145). -/
  relFormat : RelFormat
  /-- `ROM` (R20, R104): the opcode table. -/
  rom : Machine.OpcodeRom
deriving DecidableEq, Repr

/-- The 21 default spellings of R281, the domain of `ILLEGAL_MNEMONICS`. -/
def Config.illegalNames : List Text :=
  [['s','l','o'], ['r','l','a'], ['s','r','e'], ['r','r','a'], ['s','a','x'], ['l','a','x'], ['d','c','p']] ++
  [['i','s','c'], ['a','n','c'], ['a','l','r'], ['a','r','r'], ['x','a','a'], ['a','x','s'], ['s','b','c']] ++
  [['a','h','x'], ['t','a','s'], ['s','h','y'], ['s','h','x'], ['l','a','s'], ['n','o','p'], ['k','i','l']]

/-- The parameters at reset. `ILLEGAL_MNEMONICS`, `REL_FORMAT` and the ROM have the defaults of R281, R145 and R103. The
spec gives `BUF_SIZE` and `OFFSET_BITS` no value: DESIGN CHOICE, 65538 bytes (the 16-bit image and its pad) and the 17 bits that
D13 then asks for (assumption 3). -/
def Config.resetParams : Params :=
  { bufSize := 65538, offsetBits := 17, illegalMnemonics := [], relFormat := .standard,
    rom := Machine.defaultRom }

end Sys2Proof
end

