-- ==== Sys2Proof/WellFormed.lean ====
section
/-! DEFINITION. The checks that the types leave open. A term of Instr has none: its operands are bytes and its
constructor fixes how many (spec/30_encoding.md R60), so every term is an instruction. What can be ill formed is a ROM
entry (spec/40_opcode_lookup.md R101), the choice of the OPEN parameters (spec/00_scope.md R5) and a Start command that
does not fit its port (spec/10_state.md R27). -/

namespace Sys2Proof

/-- An upper-case ASCII letter. -/
def isUpper (c : Char) : Bool := 'A'.toNat ≤ c.toNat && c.toNat ≤ 'Z'.toNat

/-- A lower-case ASCII letter. -/
def isLower (c : Char) : Bool := 'a'.toNat ≤ c.toNat && c.toNat ≤ 'z'.toNat

/-- A text of ASCII characters (R8). -/
def isAscii (t : Text) : Bool := t.all fun c => c.toNat < 128

/-- R72, R100, R101: a mnemonic is three ASCII letters, of upper case iff the entry is documented. -/
def OpcodeEntry.wellFormed (e : OpcodeEntry) : Bool :=
  e.mnemonic.length == 3 && e.mnemonic.all (if e.illegal then isLower else isUpper)

/-- R5: `BUF_SIZE < 2^OFFSET_BITS`. -/
def Params.sizeFits (p : Params) : Bool := decide (p.bufSize < 2 ^ p.offsetBits)

/-- R281: `ILLEGAL_MNEMONICS` maps default spellings, and each to three lower-case letters. -/
def Params.spellingsFit (p : Params) : Bool :=
  p.illegalMnemonics.all fun e => Config.illegalNames.contains e.1 && e.2.length == 3 && e.2.all isLower

/-- R101: every entry of the ROM is well formed. -/
def Params.romFits (p : Params) : Bool := p.rom.all fun row => row.all OpcodeEntry.wellFormed

/-- The choices of the parameters that the spec allows (R5, R101, R281). -/
def Params.wellFormed (p : Params) : Bool := p.sizeFits && p.spellingsFit && p.romFits

/-- R27: START and LEN are `OFFSET_BITS` wide. The block itself does not check it (DEDUCED, assumption 17). -/
def Request.wellFormed (p : Params) (r : Request) : Bool :=
  decide (r.start < 2 ^ p.offsetBits) && decide (r.len < 2 ^ p.offsetBits)

end Sys2Proof
end

