-- ==== Sys2Proof/Decode.lean ====
section
/-! DEFINITION. The decoder from bytes to instructions, total on any bytes (spec/30_encoding.md R60, R61, R64, R69;
spec/20_memory.md R45), and the encoder. The opcode byte alone says how many operand bytes follow. Every opcode byte is an
instruction; a byte list is refused, by name, only where it ends too early. The instructions are the rows of
spec/opcode_table.json, so `decode` reads lengths from the default ROM; a block with another ROM reads as many bytes as
its own says (`fetch` and `decodeStep` in Machine/Ops.lean; assumption 20). -/

namespace Sys2Proof

/-- Why a byte list is no instruction. -/
inductive DecodeError where
  /-- There is no byte at all. -/
  | noOpcode
  /-- The list ends before the operand bytes that this opcode byte needs. -/
  | cutShort (opcode : Byte)
deriving DecidableEq, Repr

/-- The instructions with opcodes 0x00 to 0x0F, each given its operand bytes (R61, R67). -/
def instrRow0 : List (Byte → Byte → Instr) :=
  [fun _ _ => .brkImp,
   fun o _ => .oraIzx o,
   fun _ _ => .xKilImp02,
   fun o _ => .xSloIzx o,
   fun o _ => .xNopZp04 o,
   fun o _ => .oraZp o,
   fun o _ => .aslZp o,
   fun o _ => .xSloZp o,
   fun _ _ => .phpImp,
   fun o _ => .oraImm o,
   fun _ _ => .aslAcc,
   fun o _ => .xAncImm0B o,
   fun lo hi => .xNopAbs lo hi,
   fun lo hi => .oraAbs lo hi,
   fun lo hi => .aslAbs lo hi,
   fun lo hi => .xSloAbs lo hi]

/-- The instructions with opcodes 0x10 to 0x1F, each given its operand bytes (R61, R67). -/
def instrRow1 : List (Byte → Byte → Instr) :=
  [fun o _ => .bplRel o,
   fun o _ => .oraIzy o,
   fun _ _ => .xKilImp12,
   fun o _ => .xSloIzy o,
   fun o _ => .xNopZpx14 o,
   fun o _ => .oraZpx o,
   fun o _ => .aslZpx o,
   fun o _ => .xSloZpx o,
   fun _ _ => .clcImp,
   fun lo hi => .oraAby lo hi,
   fun _ _ => .xNopImp1A,
   fun lo hi => .xSloAby lo hi,
   fun lo hi => .xNopAbx1C lo hi,
   fun lo hi => .oraAbx lo hi,
   fun lo hi => .aslAbx lo hi,
   fun lo hi => .xSloAbx lo hi]

/-- The instructions with opcodes 0x20 to 0x2F, each given its operand bytes (R61, R67). -/
def instrRow2 : List (Byte → Byte → Instr) :=
  [fun lo hi => .jsrAbs lo hi,
   fun o _ => .andIzx o,
   fun _ _ => .xKilImp22,
   fun o _ => .xRlaIzx o,
   fun o _ => .bitZp o,
   fun o _ => .andZp o,
   fun o _ => .rolZp o,
   fun o _ => .xRlaZp o,
   fun _ _ => .plpImp,
   fun o _ => .andImm o,
   fun _ _ => .rolAcc,
   fun o _ => .xAncImm2B o,
   fun lo hi => .bitAbs lo hi,
   fun lo hi => .andAbs lo hi,
   fun lo hi => .rolAbs lo hi,
   fun lo hi => .xRlaAbs lo hi]

/-- The instructions with opcodes 0x30 to 0x3F, each given its operand bytes (R61, R67). -/
def instrRow3 : List (Byte → Byte → Instr) :=
  [fun o _ => .bmiRel o,
   fun o _ => .andIzy o,
   fun _ _ => .xKilImp32,
   fun o _ => .xRlaIzy o,
   fun o _ => .xNopZpx34 o,
   fun o _ => .andZpx o,
   fun o _ => .rolZpx o,
   fun o _ => .xRlaZpx o,
   fun _ _ => .secImp,
   fun lo hi => .andAby lo hi,
   fun _ _ => .xNopImp3A,
   fun lo hi => .xRlaAby lo hi,
   fun lo hi => .xNopAbx3C lo hi,
   fun lo hi => .andAbx lo hi,
   fun lo hi => .rolAbx lo hi,
   fun lo hi => .xRlaAbx lo hi]

/-- The instructions with opcodes 0x40 to 0x4F, each given its operand bytes (R61, R67). -/
def instrRow4 : List (Byte → Byte → Instr) :=
  [fun _ _ => .rtiImp,
   fun o _ => .eorIzx o,
   fun _ _ => .xKilImp42,
   fun o _ => .xSreIzx o,
   fun o _ => .xNopZp44 o,
   fun o _ => .eorZp o,
   fun o _ => .lsrZp o,
   fun o _ => .xSreZp o,
   fun _ _ => .phaImp,
   fun o _ => .eorImm o,
   fun _ _ => .lsrAcc,
   fun o _ => .xAlrImm o,
   fun lo hi => .jmpAbs lo hi,
   fun lo hi => .eorAbs lo hi,
   fun lo hi => .lsrAbs lo hi,
   fun lo hi => .xSreAbs lo hi]

/-- The instructions with opcodes 0x50 to 0x5F, each given its operand bytes (R61, R67). -/
def instrRow5 : List (Byte → Byte → Instr) :=
  [fun o _ => .bvcRel o,
   fun o _ => .eorIzy o,
   fun _ _ => .xKilImp52,
   fun o _ => .xSreIzy o,
   fun o _ => .xNopZpx54 o,
   fun o _ => .eorZpx o,
   fun o _ => .lsrZpx o,
   fun o _ => .xSreZpx o,
   fun _ _ => .cliImp,
   fun lo hi => .eorAby lo hi,
   fun _ _ => .xNopImp5A,
   fun lo hi => .xSreAby lo hi,
   fun lo hi => .xNopAbx5C lo hi,
   fun lo hi => .eorAbx lo hi,
   fun lo hi => .lsrAbx lo hi,
   fun lo hi => .xSreAbx lo hi]

/-- The instructions with opcodes 0x60 to 0x6F, each given its operand bytes (R61, R67). -/
def instrRow6 : List (Byte → Byte → Instr) :=
  [fun _ _ => .rtsImp,
   fun o _ => .adcIzx o,
   fun _ _ => .xKilImp62,
   fun o _ => .xRraIzx o,
   fun o _ => .xNopZp64 o,
   fun o _ => .adcZp o,
   fun o _ => .rorZp o,
   fun o _ => .xRraZp o,
   fun _ _ => .plaImp,
   fun o _ => .adcImm o,
   fun _ _ => .rorAcc,
   fun o _ => .xArrImm o,
   fun lo hi => .jmpInd lo hi,
   fun lo hi => .adcAbs lo hi,
   fun lo hi => .rorAbs lo hi,
   fun lo hi => .xRraAbs lo hi]

/-- The instructions with opcodes 0x70 to 0x7F, each given its operand bytes (R61, R67). -/
def instrRow7 : List (Byte → Byte → Instr) :=
  [fun o _ => .bvsRel o,
   fun o _ => .adcIzy o,
   fun _ _ => .xKilImp72,
   fun o _ => .xRraIzy o,
   fun o _ => .xNopZpx74 o,
   fun o _ => .adcZpx o,
   fun o _ => .rorZpx o,
   fun o _ => .xRraZpx o,
   fun _ _ => .seiImp,
   fun lo hi => .adcAby lo hi,
   fun _ _ => .xNopImp7A,
   fun lo hi => .xRraAby lo hi,
   fun lo hi => .xNopAbx7C lo hi,
   fun lo hi => .adcAbx lo hi,
   fun lo hi => .rorAbx lo hi,
   fun lo hi => .xRraAbx lo hi]

/-- The instructions with opcodes 0x80 to 0x8F, each given its operand bytes (R61, R67). -/
def instrRow8 : List (Byte → Byte → Instr) :=
  [fun o _ => .xNopImm80 o,
   fun o _ => .staIzx o,
   fun o _ => .xNopImm82 o,
   fun o _ => .xSaxIzx o,
   fun o _ => .styZp o,
   fun o _ => .staZp o,
   fun o _ => .stxZp o,
   fun o _ => .xSaxZp o,
   fun _ _ => .deyImp,
   fun o _ => .xNopImm89 o,
   fun _ _ => .txaImp,
   fun o _ => .xXaaImm o,
   fun lo hi => .styAbs lo hi,
   fun lo hi => .staAbs lo hi,
   fun lo hi => .stxAbs lo hi,
   fun lo hi => .xSaxAbs lo hi]

/-- The instructions with opcodes 0x90 to 0x9F, each given its operand bytes (R61, R67). -/
def instrRow9 : List (Byte → Byte → Instr) :=
  [fun o _ => .bccRel o,
   fun o _ => .staIzy o,
   fun _ _ => .xKilImp92,
   fun o _ => .xAhxIzy o,
   fun o _ => .styZpx o,
   fun o _ => .staZpx o,
   fun o _ => .stxZpy o,
   fun o _ => .xSaxZpy o,
   fun _ _ => .tyaImp,
   fun lo hi => .staAby lo hi,
   fun _ _ => .txsImp,
   fun lo hi => .xTasAby lo hi,
   fun lo hi => .xShyAbx lo hi,
   fun lo hi => .staAbx lo hi,
   fun lo hi => .xShxAby lo hi,
   fun lo hi => .xAhxAby lo hi]

/-- The instructions with opcodes 0xA0 to 0xAF, each given its operand bytes (R61, R67). -/
def instrRowA : List (Byte → Byte → Instr) :=
  [fun o _ => .ldyImm o,
   fun o _ => .ldaIzx o,
   fun o _ => .ldxImm o,
   fun o _ => .xLaxIzx o,
   fun o _ => .ldyZp o,
   fun o _ => .ldaZp o,
   fun o _ => .ldxZp o,
   fun o _ => .xLaxZp o,
   fun _ _ => .tayImp,
   fun o _ => .ldaImm o,
   fun _ _ => .taxImp,
   fun o _ => .xLaxImm o,
   fun lo hi => .ldyAbs lo hi,
   fun lo hi => .ldaAbs lo hi,
   fun lo hi => .ldxAbs lo hi,
   fun lo hi => .xLaxAbs lo hi]

/-- The instructions with opcodes 0xB0 to 0xBF, each given its operand bytes (R61, R67). -/
def instrRowB : List (Byte → Byte → Instr) :=
  [fun o _ => .bcsRel o,
   fun o _ => .ldaIzy o,
   fun _ _ => .xKilImpB2,
   fun o _ => .xLaxIzy o,
   fun o _ => .ldyZpx o,
   fun o _ => .ldaZpx o,
   fun o _ => .ldxZpy o,
   fun o _ => .xLaxZpy o,
   fun _ _ => .clvImp,
   fun lo hi => .ldaAby lo hi,
   fun _ _ => .tsxImp,
   fun lo hi => .xLasAby lo hi,
   fun lo hi => .ldyAbx lo hi,
   fun lo hi => .ldaAbx lo hi,
   fun lo hi => .ldxAby lo hi,
   fun lo hi => .xLaxAby lo hi]

/-- The instructions with opcodes 0xC0 to 0xCF, each given its operand bytes (R61, R67). -/
def instrRowC : List (Byte → Byte → Instr) :=
  [fun o _ => .cpyImm o,
   fun o _ => .cmpIzx o,
   fun o _ => .xNopImmC2 o,
   fun o _ => .xDcpIzx o,
   fun o _ => .cpyZp o,
   fun o _ => .cmpZp o,
   fun o _ => .decZp o,
   fun o _ => .xDcpZp o,
   fun _ _ => .inyImp,
   fun o _ => .cmpImm o,
   fun _ _ => .dexImp,
   fun o _ => .xAxsImm o,
   fun lo hi => .cpyAbs lo hi,
   fun lo hi => .cmpAbs lo hi,
   fun lo hi => .decAbs lo hi,
   fun lo hi => .xDcpAbs lo hi]

/-- The instructions with opcodes 0xD0 to 0xDF, each given its operand bytes (R61, R67). -/
def instrRowD : List (Byte → Byte → Instr) :=
  [fun o _ => .bneRel o,
   fun o _ => .cmpIzy o,
   fun _ _ => .xKilImpD2,
   fun o _ => .xDcpIzy o,
   fun o _ => .xNopZpxD4 o,
   fun o _ => .cmpZpx o,
   fun o _ => .decZpx o,
   fun o _ => .xDcpZpx o,
   fun _ _ => .cldImp,
   fun lo hi => .cmpAby lo hi,
   fun _ _ => .xNopImpDA,
   fun lo hi => .xDcpAby lo hi,
   fun lo hi => .xNopAbxDC lo hi,
   fun lo hi => .cmpAbx lo hi,
   fun lo hi => .decAbx lo hi,
   fun lo hi => .xDcpAbx lo hi]

/-- The instructions with opcodes 0xE0 to 0xEF, each given its operand bytes (R61, R67). -/
def instrRowE : List (Byte → Byte → Instr) :=
  [fun o _ => .cpxImm o,
   fun o _ => .sbcIzx o,
   fun o _ => .xNopImmE2 o,
   fun o _ => .xIscIzx o,
   fun o _ => .cpxZp o,
   fun o _ => .sbcZp o,
   fun o _ => .incZp o,
   fun o _ => .xIscZp o,
   fun _ _ => .inxImp,
   fun o _ => .sbcImm o,
   fun _ _ => .nopImp,
   fun o _ => .xSbcImm o,
   fun lo hi => .cpxAbs lo hi,
   fun lo hi => .sbcAbs lo hi,
   fun lo hi => .incAbs lo hi,
   fun lo hi => .xIscAbs lo hi]

/-- The instructions with opcodes 0xF0 to 0xFF, each given its operand bytes (R61, R67). -/
def instrRowF : List (Byte → Byte → Instr) :=
  [fun o _ => .beqRel o,
   fun o _ => .sbcIzy o,
   fun _ _ => .xKilImpF2,
   fun o _ => .xIscIzy o,
   fun o _ => .xNopZpxF4 o,
   fun o _ => .sbcZpx o,
   fun o _ => .incZpx o,
   fun o _ => .xIscZpx o,
   fun _ _ => .sedImp,
   fun lo hi => .sbcAby lo hi,
   fun _ _ => .xNopImpFA,
   fun lo hi => .xIscAby lo hi,
   fun lo hi => .xNopAbxFC lo hi,
   fun lo hi => .sbcAbx lo hi,
   fun lo hi => .incAbx lo hi,
   fun lo hi => .xIscAbx lo hi]

/-- The rows of the decoder's table, in the order of the opcode byte's high half. -/
def instrRows : List (List (Byte → Byte → Instr)) :=
  [instrRow0, instrRow1, instrRow2, instrRow3, instrRow4, instrRow5, instrRow6, instrRow7] ++
  [instrRow8, instrRow9, instrRowA, instrRowB, instrRowC, instrRowD, instrRowE, instrRowF]

theorem instrRows_length : instrRows.length = 16 := rfl

theorem instrRow_length {h : Nat} (hh : h < instrRows.length) : instrRows[h].length = 16 :=
  (by simp [instrRows, instrRow0, instrRow1, instrRow2, instrRow3, instrRow4, instrRow5, instrRow6, instrRow7,
    instrRow8, instrRow9, instrRowA, instrRowB, instrRowC, instrRowD, instrRowE, instrRowF] :
    ∀ row ∈ instrRows, row.length = 16) _ (List.getElem_mem hh)

/-- The instruction of opcode byte `b0` with operand bytes `b1` and `b2`; an instruction with fewer operand bytes
ignores the rest. -/
def instrOf (b0 b1 b2 : Byte) : Instr :=
  ((instrRows[b0.toNat / 16]'(by rw [instrRows_length]; omega))[b0.toNat % 16]'(by rw [instrRow_length]; omega)) b1 b2

/-- Read one instruction from the front of a byte list, and give back the bytes after it (R60, R64). -/
def decode : List Byte → Except DecodeError (Instr × List Byte)
  | [] => .error .noOpcode
  | b0 :: rest =>
    match (Machine.lookup Machine.defaultRom b0).mode.format, rest with
    | .f1, rest => .ok (instrOf b0 0 0, rest)
    | .f2, o :: rest => .ok (instrOf b0 o 0, rest)
    | .f3, lo :: hi :: rest => .ok (instrOf b0 lo hi, rest)
    | .f2, [] => .error (.cutShort b0)
    | .f3, [] => .error (.cutShort b0)
    | .f3, [_] => .error (.cutShort b0)

/-- The bytes of an instruction: its opcode byte (R67), then its operand bytes, the low byte first (R45, R61). -/
def encode : Instr → List Byte
  | .brkImp => [0x00]
  | .oraIzx o => [0x01, o]
  | .xKilImp02 => [0x02]
  | .xSloIzx o => [0x03, o]
  | .xNopZp04 o => [0x04, o]
  | .oraZp o => [0x05, o]
  | .aslZp o => [0x06, o]
  | .xSloZp o => [0x07, o]
  | .phpImp => [0x08]
  | .oraImm o => [0x09, o]
  | .aslAcc => [0x0A]
  | .xAncImm0B o => [0x0B, o]
  | .xNopAbs lo hi => [0x0C, lo, hi]
  | .oraAbs lo hi => [0x0D, lo, hi]
  | .aslAbs lo hi => [0x0E, lo, hi]
  | .xSloAbs lo hi => [0x0F, lo, hi]
  | .bplRel o => [0x10, o]
  | .oraIzy o => [0x11, o]
  | .xKilImp12 => [0x12]
  | .xSloIzy o => [0x13, o]
  | .xNopZpx14 o => [0x14, o]
  | .oraZpx o => [0x15, o]
  | .aslZpx o => [0x16, o]
  | .xSloZpx o => [0x17, o]
  | .clcImp => [0x18]
  | .oraAby lo hi => [0x19, lo, hi]
  | .xNopImp1A => [0x1A]
  | .xSloAby lo hi => [0x1B, lo, hi]
  | .xNopAbx1C lo hi => [0x1C, lo, hi]
  | .oraAbx lo hi => [0x1D, lo, hi]
  | .aslAbx lo hi => [0x1E, lo, hi]
  | .xSloAbx lo hi => [0x1F, lo, hi]
  | .jsrAbs lo hi => [0x20, lo, hi]
  | .andIzx o => [0x21, o]
  | .xKilImp22 => [0x22]
  | .xRlaIzx o => [0x23, o]
  | .bitZp o => [0x24, o]
  | .andZp o => [0x25, o]
  | .rolZp o => [0x26, o]
  | .xRlaZp o => [0x27, o]
  | .plpImp => [0x28]
  | .andImm o => [0x29, o]
  | .rolAcc => [0x2A]
  | .xAncImm2B o => [0x2B, o]
  | .bitAbs lo hi => [0x2C, lo, hi]
  | .andAbs lo hi => [0x2D, lo, hi]
  | .rolAbs lo hi => [0x2E, lo, hi]
  | .xRlaAbs lo hi => [0x2F, lo, hi]
  | .bmiRel o => [0x30, o]
  | .andIzy o => [0x31, o]
  | .xKilImp32 => [0x32]
  | .xRlaIzy o => [0x33, o]
  | .xNopZpx34 o => [0x34, o]
  | .andZpx o => [0x35, o]
  | .rolZpx o => [0x36, o]
  | .xRlaZpx o => [0x37, o]
  | .secImp => [0x38]
  | .andAby lo hi => [0x39, lo, hi]
  | .xNopImp3A => [0x3A]
  | .xRlaAby lo hi => [0x3B, lo, hi]
  | .xNopAbx3C lo hi => [0x3C, lo, hi]
  | .andAbx lo hi => [0x3D, lo, hi]
  | .rolAbx lo hi => [0x3E, lo, hi]
  | .xRlaAbx lo hi => [0x3F, lo, hi]
  | .rtiImp => [0x40]
  | .eorIzx o => [0x41, o]
  | .xKilImp42 => [0x42]
  | .xSreIzx o => [0x43, o]
  | .xNopZp44 o => [0x44, o]
  | .eorZp o => [0x45, o]
  | .lsrZp o => [0x46, o]
  | .xSreZp o => [0x47, o]
  | .phaImp => [0x48]
  | .eorImm o => [0x49, o]
  | .lsrAcc => [0x4A]
  | .xAlrImm o => [0x4B, o]
  | .jmpAbs lo hi => [0x4C, lo, hi]
  | .eorAbs lo hi => [0x4D, lo, hi]
  | .lsrAbs lo hi => [0x4E, lo, hi]
  | .xSreAbs lo hi => [0x4F, lo, hi]
  | .bvcRel o => [0x50, o]
  | .eorIzy o => [0x51, o]
  | .xKilImp52 => [0x52]
  | .xSreIzy o => [0x53, o]
  | .xNopZpx54 o => [0x54, o]
  | .eorZpx o => [0x55, o]
  | .lsrZpx o => [0x56, o]
  | .xSreZpx o => [0x57, o]
  | .cliImp => [0x58]
  | .eorAby lo hi => [0x59, lo, hi]
  | .xNopImp5A => [0x5A]
  | .xSreAby lo hi => [0x5B, lo, hi]
  | .xNopAbx5C lo hi => [0x5C, lo, hi]
  | .eorAbx lo hi => [0x5D, lo, hi]
  | .lsrAbx lo hi => [0x5E, lo, hi]
  | .xSreAbx lo hi => [0x5F, lo, hi]
  | .rtsImp => [0x60]
  | .adcIzx o => [0x61, o]
  | .xKilImp62 => [0x62]
  | .xRraIzx o => [0x63, o]
  | .xNopZp64 o => [0x64, o]
  | .adcZp o => [0x65, o]
  | .rorZp o => [0x66, o]
  | .xRraZp o => [0x67, o]
  | .plaImp => [0x68]
  | .adcImm o => [0x69, o]
  | .rorAcc => [0x6A]
  | .xArrImm o => [0x6B, o]
  | .jmpInd lo hi => [0x6C, lo, hi]
  | .adcAbs lo hi => [0x6D, lo, hi]
  | .rorAbs lo hi => [0x6E, lo, hi]
  | .xRraAbs lo hi => [0x6F, lo, hi]
  | .bvsRel o => [0x70, o]
  | .adcIzy o => [0x71, o]
  | .xKilImp72 => [0x72]
  | .xRraIzy o => [0x73, o]
  | .xNopZpx74 o => [0x74, o]
  | .adcZpx o => [0x75, o]
  | .rorZpx o => [0x76, o]
  | .xRraZpx o => [0x77, o]
  | .seiImp => [0x78]
  | .adcAby lo hi => [0x79, lo, hi]
  | .xNopImp7A => [0x7A]
  | .xRraAby lo hi => [0x7B, lo, hi]
  | .xNopAbx7C lo hi => [0x7C, lo, hi]
  | .adcAbx lo hi => [0x7D, lo, hi]
  | .rorAbx lo hi => [0x7E, lo, hi]
  | .xRraAbx lo hi => [0x7F, lo, hi]
  | .xNopImm80 o => [0x80, o]
  | .staIzx o => [0x81, o]
  | .xNopImm82 o => [0x82, o]
  | .xSaxIzx o => [0x83, o]
  | .styZp o => [0x84, o]
  | .staZp o => [0x85, o]
  | .stxZp o => [0x86, o]
  | .xSaxZp o => [0x87, o]
  | .deyImp => [0x88]
  | .xNopImm89 o => [0x89, o]
  | .txaImp => [0x8A]
  | .xXaaImm o => [0x8B, o]
  | .styAbs lo hi => [0x8C, lo, hi]
  | .staAbs lo hi => [0x8D, lo, hi]
  | .stxAbs lo hi => [0x8E, lo, hi]
  | .xSaxAbs lo hi => [0x8F, lo, hi]
  | .bccRel o => [0x90, o]
  | .staIzy o => [0x91, o]
  | .xKilImp92 => [0x92]
  | .xAhxIzy o => [0x93, o]
  | .styZpx o => [0x94, o]
  | .staZpx o => [0x95, o]
  | .stxZpy o => [0x96, o]
  | .xSaxZpy o => [0x97, o]
  | .tyaImp => [0x98]
  | .staAby lo hi => [0x99, lo, hi]
  | .txsImp => [0x9A]
  | .xTasAby lo hi => [0x9B, lo, hi]
  | .xShyAbx lo hi => [0x9C, lo, hi]
  | .staAbx lo hi => [0x9D, lo, hi]
  | .xShxAby lo hi => [0x9E, lo, hi]
  | .xAhxAby lo hi => [0x9F, lo, hi]
  | .ldyImm o => [0xA0, o]
  | .ldaIzx o => [0xA1, o]
  | .ldxImm o => [0xA2, o]
  | .xLaxIzx o => [0xA3, o]
  | .ldyZp o => [0xA4, o]
  | .ldaZp o => [0xA5, o]
  | .ldxZp o => [0xA6, o]
  | .xLaxZp o => [0xA7, o]
  | .tayImp => [0xA8]
  | .ldaImm o => [0xA9, o]
  | .taxImp => [0xAA]
  | .xLaxImm o => [0xAB, o]
  | .ldyAbs lo hi => [0xAC, lo, hi]
  | .ldaAbs lo hi => [0xAD, lo, hi]
  | .ldxAbs lo hi => [0xAE, lo, hi]
  | .xLaxAbs lo hi => [0xAF, lo, hi]
  | .bcsRel o => [0xB0, o]
  | .ldaIzy o => [0xB1, o]
  | .xKilImpB2 => [0xB2]
  | .xLaxIzy o => [0xB3, o]
  | .ldyZpx o => [0xB4, o]
  | .ldaZpx o => [0xB5, o]
  | .ldxZpy o => [0xB6, o]
  | .xLaxZpy o => [0xB7, o]
  | .clvImp => [0xB8]
  | .ldaAby lo hi => [0xB9, lo, hi]
  | .tsxImp => [0xBA]
  | .xLasAby lo hi => [0xBB, lo, hi]
  | .ldyAbx lo hi => [0xBC, lo, hi]
  | .ldaAbx lo hi => [0xBD, lo, hi]
  | .ldxAby lo hi => [0xBE, lo, hi]
  | .xLaxAby lo hi => [0xBF, lo, hi]
  | .cpyImm o => [0xC0, o]
  | .cmpIzx o => [0xC1, o]
  | .xNopImmC2 o => [0xC2, o]
  | .xDcpIzx o => [0xC3, o]
  | .cpyZp o => [0xC4, o]
  | .cmpZp o => [0xC5, o]
  | .decZp o => [0xC6, o]
  | .xDcpZp o => [0xC7, o]
  | .inyImp => [0xC8]
  | .cmpImm o => [0xC9, o]
  | .dexImp => [0xCA]
  | .xAxsImm o => [0xCB, o]
  | .cpyAbs lo hi => [0xCC, lo, hi]
  | .cmpAbs lo hi => [0xCD, lo, hi]
  | .decAbs lo hi => [0xCE, lo, hi]
  | .xDcpAbs lo hi => [0xCF, lo, hi]
  | .bneRel o => [0xD0, o]
  | .cmpIzy o => [0xD1, o]
  | .xKilImpD2 => [0xD2]
  | .xDcpIzy o => [0xD3, o]
  | .xNopZpxD4 o => [0xD4, o]
  | .cmpZpx o => [0xD5, o]
  | .decZpx o => [0xD6, o]
  | .xDcpZpx o => [0xD7, o]
  | .cldImp => [0xD8]
  | .cmpAby lo hi => [0xD9, lo, hi]
  | .xNopImpDA => [0xDA]
  | .xDcpAby lo hi => [0xDB, lo, hi]
  | .xNopAbxDC lo hi => [0xDC, lo, hi]
  | .cmpAbx lo hi => [0xDD, lo, hi]
  | .decAbx lo hi => [0xDE, lo, hi]
  | .xDcpAbx lo hi => [0xDF, lo, hi]
  | .cpxImm o => [0xE0, o]
  | .sbcIzx o => [0xE1, o]
  | .xNopImmE2 o => [0xE2, o]
  | .xIscIzx o => [0xE3, o]
  | .cpxZp o => [0xE4, o]
  | .sbcZp o => [0xE5, o]
  | .incZp o => [0xE6, o]
  | .xIscZp o => [0xE7, o]
  | .inxImp => [0xE8]
  | .sbcImm o => [0xE9, o]
  | .nopImp => [0xEA]
  | .xSbcImm o => [0xEB, o]
  | .cpxAbs lo hi => [0xEC, lo, hi]
  | .sbcAbs lo hi => [0xED, lo, hi]
  | .incAbs lo hi => [0xEE, lo, hi]
  | .xIscAbs lo hi => [0xEF, lo, hi]
  | .beqRel o => [0xF0, o]
  | .sbcIzy o => [0xF1, o]
  | .xKilImpF2 => [0xF2]
  | .xIscIzy o => [0xF3, o]
  | .xNopZpxF4 o => [0xF4, o]
  | .sbcZpx o => [0xF5, o]
  | .incZpx o => [0xF6, o]
  | .xIscZpx o => [0xF7, o]
  | .sedImp => [0xF8]
  | .sbcAby lo hi => [0xF9, lo, hi]
  | .xNopImpFA => [0xFA]
  | .xIscAby lo hi => [0xFB, lo, hi]
  | .xNopAbxFC lo hi => [0xFC, lo, hi]
  | .sbcAbx lo hi => [0xFD, lo, hi]
  | .incAbx lo hi => [0xFE, lo, hi]
  | .xIscAbx lo hi => [0xFF, lo, hi]

/-- The instruction read from a word numbered as spec/opcode_table.json numbers it: bits 7 to 0 are the opcode byte, bits
15 to 8 the next byte, bits 23 to 16 the third; bits from `nbits` on are 0. -/
def tableBytes (nbits w : Nat) : List Byte :=
  let v := w % 2 ^ nbits
  [BitVec.ofNat 8 v, BitVec.ofNat 8 (v / 256), BitVec.ofNat 8 (v / 65536)]

def decodeTableWord (nbits w : Nat) : Option Instr :=
  match decode (tableBytes nbits w) with
  | .ok (i, _) => some i
  | .error _ => none

end Sys2Proof
end

