-- ==== Sys2Proof/Machine/State.lean ====
section
/-! DEFINITION. The block's state (spec/10_state.md R20), the buffer it reads (spec/20_memory.md R40), and the other
agent's side of the interface (spec/60_exceptions.md R315): what the host presents, and the answer it gets. The opcode
ROM is a constant part of the state (R20, R21), one of its parameters. -/

namespace Sys2Proof.Machine

/-- Whether a request is running (R20, R26). -/
inductive Phase where
  | idle
  | busy
  | done
deriving DecidableEq, Repr

/-- The numeric value of an operand: `Byte` or `Addr16` (R115). -/
inductive OperandValue where
  | byte (b : Byte)
  | addr (v : Addr)
deriving DecidableEq, Repr

/-- The record of one decoded instruction (spec/41_decode_sequencer.md R115). -/
structure Record where
  address      : Addr
  rawBytes     : List Byte
  mnemonic     : Text
  operandText  : Text
  opcodeByte   : Byte
  illegal      : Bool
  mode         : Mode
  length       : Nat
  operandValue : Option OperandValue
  displacement : Option Int
  target       : Option Addr
  lineText     : Text
deriving DecidableEq, Repr

/-- The closed list of reasons for which a Start is refused (R302). -/
inductive RefusalCode where
  | busy
  | outOfBuffer
deriving DecidableEq, Repr

/-- What the host gets back from a Start (R315). -/
inductive StartReply where
  | accepted
  | refused (code : RefusalCode)
deriving DecidableEq, Repr

/-- What the host does in one step (R315). Poll and Collect only read (`poll`, `collect` in Machine/Ops.lean), so they are
no move. -/
inductive HostMove where
  /-- The host presents nothing: the block takes its own step. -/
  | pass
  /-- The host presents a Start (R110). -/
  | start (r : Request)
  /-- The host gives the reset signal (R332). -/
  | reset
  /-- The host gives the reset signal and presents a Start in the same step (R305). -/
  | resetAndStart (r : Request)
  /-- The host changes one byte of the buffer (R315, R333). -/
  | write (offset : Nat) (value : Byte)
deriving DecidableEq, Repr

/-- The bytes of the buffer that are not `blankByte`, in canonical form (`Memory.wf`). -/
abbrev Memory := List Host.Cell

/-- What a buffer byte that nothing has written reads as: DESIGN CHOICE, the spec gives the buffer no reset contents
(assumption 2). -/
abbrev blankByte : Byte := 0

/-- The canonical form: offsets strictly rise, and no listed byte equals what an unlisted one reads as. -/
abbrev Memory.wf (m : Memory) : Prop := m.Pairwise (fun a b => a.1 < b.1) ∧ ∀ c ∈ m, c.2 ≠ blankByte

/-- The state of the machine: the block, its buffer, its parameters, and the host. -/
structure State where
  /-- R20, R26. -/
  phase : Phase
  /-- R20, R24: the buffer offset of the next opcode byte, the block's program counter. Readable only through
  `readCursor`. -/
  cursor : Nat
  /-- R20: START + LEN. Readable only through `readDataEnd`. -/
  dataEnd : Nat
  /-- R20: the load address. Readable only through `readLoad`. -/
  load : Addr
  /-- R20, R22: `OUT`, the records emitted, in order. -/
  out : List Record
  /-- R40: `BUF`, the host's buffer, which the block reads in place. -/
  buf : Memory
  /-- R5, R20, R21: the OPEN implementation parameters and the ROM, which nothing writes. -/
  params : Params
  /-- The host's moves in the coming steps; it presents nothing after the last (assumption 5). -/
  hostMoves : List HostMove
  /-- R315: the block's answer to the latest Start, if there was one since reset (assumption 6). -/
  reply : Option StartReply
  /-- The model's own field, the host's knowledge: START of the latest accepted request, which the range that the host
  must not write is counted from (R315, R336). The block never reads it (assumption 7). -/
  reqStart : Nat
deriving DecidableEq, Repr

/-- The registers that have no value before the first Start (R330). -/
inductive Register where
  | cursor
  | dataEnd
  | load
deriving DecidableEq, Repr

/-- The reasons for which the machine stops with a fault. No run of the block takes one. -/
inductive Fault where
  /-- R30, R331: a register is read in phase Idle, where it is unwritten. Raised by `readCursor`, `readDataEnd` and
  `readLoad`. Safe: the spec asks for it, and no step of the block reads them then (R124). -/
  | unwrittenRegister (r : Register)
  /-- R114, R124: an instruction's meaning is run where the block has no decode step (phase Done, or the cursor at or
  past the end of the data). Raised by `decodeStep`. Safe: `step` never does it (assumption 10). -/
  | noDecodeStep
  /-- R40: a buffer read at an offset that is not below `BUF_SIZE`, which the spec says is never made. Raised by
  `readByte`. Safe: R42 and the acceptance rule R111 exclude it in every state that a run reaches. -/
  | readOutsideBuf (offset : Nat)
deriving DecidableEq, Repr

/-- The reasons for which the machine gives a step no meaning. -/
inductive Refusal where
  /-- An instruction that has no meaning in the model yet. Raised by an arm of `exec` (none at present). Safe. -/
  | notModelled (mnemonic : String)
  /-- R315, R336 and U3 (assumption 14): the host writes a byte of the running request's protected range while the block
  is Busy, a move that the spec gives no meaning. Raised by `hostWrite`. Safe. -/
  | hostWriteProtected (offset : Nat)
  /-- R40: the host writes at an offset that is not below `BUF_SIZE`, where there is no byte. Raised by `hostWrite`.
  Safe. -/
  | hostWriteOutsideBuf (offset : Nat)
deriving DecidableEq, Repr

/-- The outcome of a step or of an instruction's meaning. -/
abbrev Result := Host.Outcome State Fault Refusal

/-- The machine right after reset (R30, R330): phase Idle and OUT empty. `cursor`, `dataEnd` and `load` "hold no value"
there, and a read of one faults; the zeros that stand in them are a DESIGN CHOICE that no read shows (assumption 1). The
buffer lists nothing (assumption 2), the host has presented nothing, and the parameters are `Config.resetParams`. -/
def State.reset : State where
  phase := .idle
  cursor := 0
  dataEnd := 0
  load := 0
  out := []
  buf := []
  params := Config.resetParams
  hostMoves := []
  reply := none
  reqStart := 0

end Sys2Proof.Machine
end

