-- ==== Sys2Proof/Machine/Flags.lean ====
section
/-! DEFINITION. The block has no condition flags and computes none (spec/10_state.md R25). Its one flag is the `illegal`
bit, which it copies from the ROM entry into the record; the one thing that depends on it is which spelling of the
mnemonic is emitted (spec/30_encoding.md R68, R72; spec/48_undocumented.md R281). -/

namespace Sys2Proof.Machine

/-- The spelling that `ILLEGAL_MNEMONICS` gives a default spelling; its own where the map names none (R281;
assumption 12). -/
def spelling (p : Params) (name : Text) : Text := (p.illegalMnemonics.lookup name).getD name

/-- The record's `illegal` bit (R68, R115). -/
def illegalBit (e : OpcodeEntry) : Bool := e.illegal

/-- The mnemonic that is emitted (R72, R281): the table's, or for an undocumented entry the chosen spelling of it. -/
def emittedMnemonic (p : Params) (e : OpcodeEntry) : Text :=
  if e.illegal then spelling p e.mnemonic else e.mnemonic

end Sys2Proof.Machine
end

