-- ==== Sys2Proof/Machine/Operands.lean ====
section
/-! DEFINITION. The operand formatter (spec/42_operand_formatter.md R130 to R147): digits, the value of a two-byte
operand, the displacement and target of a branch, and the operand text of each of the 13 modes. -/

namespace Sys2Proof.Machine

/-- The digits of R130: upper case. -/
def hexDigits : Text :=
  ['0', '1', '2', '3', '4', '5', '6', '7', '8', '9'] ++ ['A', 'B', 'C', 'D', 'E', 'F']

/-- The digit of a number below 16. -/
def hexDigit (n : Nat) : Char := hexDigits.getD n '0'

/-- `hex2` of R130: exactly two digits. -/
def hex2 (v : Byte) : Text := [hexDigit (v.toNat / 16), hexDigit (v.toNat % 16)]

/-- `hex4` of R130: exactly four digits. -/
def hex4 (v : Addr) : Text :=
  [hexDigit (v.toNat / 4096), hexDigit (v.toNat / 256 % 16), hexDigit (v.toNat / 16 % 16), hexDigit (v.toNat % 16)]

/-- Decimal digits, at most `fuel` of them. -/
def decDigits : Nat → Nat → Text
  | 0, _ => []
  | fuel + 1, n => if n < 10 then [hexDigit n] else decDigits fuel (n / 10) ++ [hexDigit (n % 10)]

/-- `dec(n)` of R7: decimal, without leading zeros. -/
def dec (n : Nat) : Text := decDigits (n + 1) n

/-- `v16 = b1 + 256 * b2` (R45): the first operand byte is the low one. -/
def word16 (b1 b2 : Byte) : Addr := BitVec.ofNat 16 (b1.toNat + 256 * b2.toNat)

/-- `sext_8` of R7 and R143. -/
def sext8 (b : Byte) : Int := ((b &&& 0x7F).toNat : Int) - ((b &&& 0x80).toNat : Int)

/-- The target of a branch whose opcode byte stands at offset `c` (R144): summed over the integers, then reduced. -/
def relTarget (c : Nat) (disp : Int) (load : Addr) : Addr := BitVec.ofInt 16 ((c + 2 : Int) + disp + load.toNat)

/-- `sign(d)` of R145. -/
def sign (d : Int) : Char := if d ≥ 0 then '+' else '-'

/-- ASCII characters as text (R8). -/
def asciiText (cs : List (BitVec 7)) : Text := cs.map fun c => Char.ofNat c.toNat

/-- The text of a relative operand in the chosen layout (R145). -/
def relText (f : RelFormat) (target : Addr) (disp : Int) : Text :=
  match f with
  | .standard => ['$'] ++ hex4 target ++ [' ', '('] ++ [sign disp] ++ dec disp.natAbs ++ [')']
  | .other layout => asciiText (Config.otherRelText layout target disp)

/-- What the formatter returns (R146). -/
structure Formatted where
  text   : Text
  value  : Option OperandValue
  disp   : Option Int
  target : Option Addr
deriving DecidableEq, Repr

/-- A formatted operand without displacement and target, as in every mode but Relative (R146). -/
def plainOperand (text : Text) (value : Option OperandValue) : Formatted := ⟨text, value, none, none⟩

/-- `FormatOperand(mode, b1, b2, c, load)` of R146: one arm for each mode, R131 to R145. A mode with fewer operand bytes
uses no other byte. -/
def formatOperand (f : RelFormat) (m : Mode) (b1 b2 : Byte) (c : Nat) (load : Addr) : Formatted :=
  match m with
  | .immediate => plainOperand (['#', '$'] ++ hex2 b1) (some (.byte b1))
  | .absolute => plainOperand (['$'] ++ hex4 (word16 b1 b2)) (some (.addr (word16 b1 b2)))
  | .zeroPage => plainOperand (['$'] ++ hex2 b1) (some (.byte b1))
  | .accumulator => plainOperand [] none
  | .implied => plainOperand [] none
  | .indexedIndirect => plainOperand (['(', '$'] ++ hex2 b1 ++ [',', 'X', ')']) (some (.byte b1))
  | .indirectIndexed => plainOperand (['(', '$'] ++ hex2 b1 ++ [')', ',', 'Y']) (some (.byte b1))
  | .zeroPageX => plainOperand (['$'] ++ hex2 b1 ++ [',', 'X']) (some (.byte b1))
  | .zeroPageY => plainOperand (['$'] ++ hex2 b1 ++ [',', 'Y']) (some (.byte b1))
  | .absoluteX => plainOperand (['$'] ++ hex4 (word16 b1 b2) ++ [',', 'X']) (some (.addr (word16 b1 b2)))
  | .absoluteY => plainOperand (['$'] ++ hex4 (word16 b1 b2) ++ [',', 'Y']) (some (.addr (word16 b1 b2)))
  | .relative =>
    ⟨relText f (relTarget c (sext8 b1) load) (sext8 b1), some (.byte b1), some (sext8 b1),
      some (relTarget c (sext8 b1) load)⟩
  | .indirect => plainOperand (['(', '$'] ++ hex4 (word16 b1 b2) ++ [')']) (some (.addr (word16 b1 b2)))

/-- `Line(m, t)` of R125. -/
def line (m t : Text) : Text := if t = [] then m else m ++ [' '] ++ t

end Sys2Proof.Machine
end

