-- ==== Sys2Proof/Machine/Ops.lean ====
section
/-! DEFINITION. The named operations over the buffer, the registers and OUT: reading a byte (spec/20_memory.md R40),
reading a register (spec/70_reset_and_hazards.md R331), the record of an instruction and the decode step
(spec/41_decode_sequencer.md R114 to R118), the end of a request (R119), Start and its refusal (R111, R112;
spec/60_exceptions.md R302), reset (R330, R332), and the host's reads and writes (R315). The block has no trap entry and no
trap return (R306, R307): `refuseStart` is the only abnormal outcome. -/

namespace Sys2Proof.Machine

/-! ### The buffer -/

/-- The byte at an offset. -/
def Memory.read : Memory → Nat → Byte
  | [], _ => blankByte
  | (a, b) :: m, o => if a = o then b else Memory.read m o

/-- A listed byte in front of a memory, left out where it equals what an unlisted one reads as. -/
def Memory.put (o : Nat) (v : Byte) (m : Memory) : Memory := if v = blankByte then m else (o, v) :: m

/-- The memory with the byte `v` at an offset, in canonical form again. -/
def Memory.write : Memory → Nat → Byte → Memory
  | [], o, v => Memory.put o v []
  | (a, b) :: m, o, v =>
    if o < a then Memory.put o v ((a, b) :: m)
    else if o = a then Memory.put o v m
    else (a, b) :: Memory.write m o v

/-- `MemRead(o, 1)` of R7 and R40; a read outside the buffer, which the spec says is never made, faults (DEDUCED,
assumption 15). -/
def readByte (s : State) (o : Nat) : Except Fault Byte :=
  if o < s.params.bufSize then .ok (Memory.read s.buf o) else .error (.readOutsideBuf o)

/-! ### The registers -/

/-- Give a value on, or stop with its fault. -/
def orFault {α : Type} (x : Except Fault α) (k : α → Result) : Result :=
  match x with
  | .ok a => k a
  | .error e => .fault e

/-- Read a register, which is unwritten in phase Idle, from reset to the first accepted Start (R26). The stop there is the
spec's own (R331; R30, U4 and D14 say the same): "A model that reads one of them in that interval must fault. It must not
return zero or any other value." -/
def readRegister {α : Type} (s : State) (r : Register) (value : α) : Except Fault α :=
  if s.phase = .idle then .error (.unwrittenRegister r) else .ok value

def readCursor (s : State) : Except Fault Nat := readRegister s .cursor s.cursor
def readDataEnd (s : State) : Except Fault Nat := readRegister s .dataEnd s.dataEnd
def readLoad (s : State) : Except Fault Addr := readRegister s .load s.load

/-! ### The decode step -/

/-- The CPU address that a buffer offset stands for (R44, R116; the offset counts from the start of the buffer,
spec/90_conflicts.md C1). -/
def recordAddress (c : Nat) (load : Addr) : Addr := BitVec.ofNat 16 (c + load.toNat)

/-- The record of the instruction at offset `c` with opcode byte `b0` and operand bytes `b1`, `b2` (R115). -/
def makeRecord (p : Params) (c : Nat) (load : Addr) (b0 b1 b2 : Byte) : Record :=
  let e := lookup p.rom b0
  let n := e.mode.operandBytes
  let f := formatOperand p.relFormat e.mode b1 b2 c load
  { address := recordAddress c load
    rawBytes := [b0, b1, b2].take (1 + n)
    mnemonic := emittedMnemonic p e
    operandText := f.text
    opcodeByte := b0
    illegal := illegalBit e
    mode := e.mode
    length := 1 + n
    operandValue := f.value
    displacement := f.disp
    target := f.target
    lineText := line (emittedMnemonic p e) f.text }

/-- `Emit(rec)` of R7. -/
def emit (r : Record) (s : State) : State := { s with out := s.out ++ [r] }

/-- `cursor <- v`. -/
def setCursor (v : Nat) (s : State) : State := { s with cursor := v }

/-- Operand byte `k` of the instruction at offset `c`, where the ROM's mode has `n`: the one that the instruction carries,
or, where it carries fewer (its row of the default table is shorter than the ROM's entry), the buffer's. The block reads
none past `n`, and the 0 then stands in no record. -/
def operandByte (s : State) (c n : Nat) (carried : List Byte) (k : Nat) : Except Fault Byte :=
  if n < k then .ok 0
  else
    match carried[k - 1]? with
    | some b => .ok b
    | none => readByte s (c + k)

/-- The decode step of R114 on an opcode byte and operand bytes that have been fetched: in phase Busy with the cursor before
the end of the data, emit the record and advance by the instruction's length (R118). The ROM of the state says how many
operand bytes there are. -/
def decodeStep (b0 : Byte) (carried : List Byte) (s : State) : Result :=
  orFault (readCursor s) fun c =>
  orFault (readDataEnd s) fun e =>
  orFault (readLoad s) fun l =>
    if s.phase = .busy ∧ c < e then
      let n := (lookup s.params.rom b0).mode.operandBytes
      orFault (operandByte s c n carried 1) fun b1 =>
      orFault (operandByte s c n carried 2) fun b2 =>
        .next (setCursor (c + 1 + n) (emit (makeRecord s.params c l b0 b1 b2) s))
    else .fault .noDecodeStep

/-- Decode an instruction that carries 0, 1 or 2 operand bytes (formats F1, F2 and F3, R61). A 1-byte form reads none
(assumption 16). -/
def decodeF1 (b0 : Byte) (s : State) : Result := decodeStep b0 [] s
def decodeF2 (b0 o : Byte) (s : State) : Result := decodeStep b0 [o] s
def decodeF3 (b0 lo hi : Byte) (s : State) : Result := decodeStep b0 [lo, hi] s

/-- The finishing step of R119: it emits nothing and reads no byte. -/
def finish (s : State) : State := { s with phase := .done }

/-- Fetch the instruction at offset `c`: the opcode byte, then exactly the operand bytes that its mode needs, in
increasing order (R45, R60, R114). -/
def fetch (s : State) (c : Nat) : Except Fault (List Byte) :=
  match readByte s c with
  | .error e => .error e
  | .ok b0 =>
    match (lookup s.params.rom b0).mode.format with
    | .f1 => .ok [b0]
    | .f2 =>
      match readByte s (c + 1) with
      | .error e => .error e
      | .ok b1 => .ok [b0, b1]
    | .f3 =>
      match readByte s (c + 1) with
      | .error e => .error e
      | .ok b1 =>
        match readByte s (c + 2) with
        | .error e => .error e
        | .ok b2 => .ok [b0, b1, b2]

/-! ### Start, refusal and reset -/

/-- The codes of R302. -/
def RefusalCode.code : RefusalCode → Nat
  | .busy => 1
  | .outOfBuffer => 2

/-- Whether a Start is refused, and for which reason (R111, R302). When both reasons hold it is `busy` (R305). -/
def startRefusal (r : Request) (s : State) : Option RefusalCode :=
  if s.phase = .busy then some .busy
  else if s.params.bufSize < r.start + r.len + Config.pad then some .outOfBuffer
  else none

/-- The effect of an accepted Start (R112). -/
def acceptStart (r : Request) (s : State) : State :=
  { s with
    cursor := r.start, dataEnd := r.start + r.len, load := r.load, out := [], phase := .busy,
    reply := some .accepted, reqStart := r.start }

/-- A refused Start (R302, R306): the reason is reported and nothing else changes. -/
def refuseStart (code : RefusalCode) (s : State) : State := { s with reply := some (.refused code) }

/-- The Start command (R111). -/
def startCommand (r : Request) (s : State) : State :=
  match startRefusal r s with
  | some code => refuseStart code s
  | none => acceptStart r s

/-- Reset (R330, R332): the block's registers as after reset; the buffer, the parameters and the host's coming moves,
which are outside the block, keep their values. -/
def resetBlock (s : State) : State :=
  { State.reset with buf := s.buf, params := s.params, hostMoves := s.hostMoves }

/-! ### The host's side -/

/-- Poll (R315): the phase, and OUT so far. -/
def poll (s : State) : Phase × List Record := (s.phase, s.out)

/-- Collect (R315, R337): the complete OUT, which there is only in phase Done. -/
def collect (s : State) : Option (List Record) := if s.phase = .done then some s.out else none

/-- The range that the host must not write while the block is Busy (R315, R336): `[START, START+LEN+2)`. -/
def isProtected (s : State) (o : Nat) : Bool :=
  decide (s.phase = .busy ∧ s.reqStart ≤ o ∧ o < s.dataEnd + Config.pad)

/-- The host changes a byte of the buffer (R315, R333). -/
def hostWrite (o : Nat) (v : Byte) (s : State) : Result :=
  if s.params.bufSize ≤ o then .refused (.hostWriteOutsideBuf o)
  else if isProtected s o then .refused (.hostWriteProtected o)
  else .next { s with buf := Memory.write s.buf o v }

/-- Take the host's next move off the list of its coming moves. -/
def dropMove (s : State) : State := { s with hostMoves := s.hostMoves.tail }

end Sys2Proof.Machine
end

