-- ==== Sys2Proof/Machine/Alu.lean ====
section
/-! DEFINITION. Arithmetic, logic, compare and bit-test instructions (spec/44_alu.md): the meaning of each, which is
to be decoded: one record emitted, the cursor moved past the instruction (spec/41_decode_sequencer.md R114). The block
does not execute it (spec/00_scope.md R4). -/

namespace Sys2Proof.Machine

/-- ADC, IndexedIndirect, opcode 0x61 (R212). -/
def execAdcIzx (o : Byte) (s : State) : Result := decodeF2 0x61 o s

/-- ADC, ZeroPage, opcode 0x65 (R212). -/
def execAdcZp (o : Byte) (s : State) : Result := decodeF2 0x65 o s

/-- ADC, Immediate, opcode 0x69 (R212). -/
def execAdcImm (o : Byte) (s : State) : Result := decodeF2 0x69 o s

/-- ADC, Absolute, opcode 0x6D (R212). -/
def execAdcAbs (lo hi : Byte) (s : State) : Result := decodeF3 0x6D lo hi s

/-- ADC, IndirectIndexed, opcode 0x71 (R212). -/
def execAdcIzy (o : Byte) (s : State) : Result := decodeF2 0x71 o s

/-- ADC, ZeroPageX, opcode 0x75 (R212). -/
def execAdcZpx (o : Byte) (s : State) : Result := decodeF2 0x75 o s

/-- ADC, AbsoluteY, opcode 0x79 (R212). -/
def execAdcAby (lo hi : Byte) (s : State) : Result := decodeF3 0x79 lo hi s

/-- ADC, AbsoluteX, opcode 0x7D (R212). -/
def execAdcAbx (lo hi : Byte) (s : State) : Result := decodeF3 0x7D lo hi s

/-- SBC, IndexedIndirect, opcode 0xE1 (R213). -/
def execSbcIzx (o : Byte) (s : State) : Result := decodeF2 0xE1 o s

/-- SBC, ZeroPage, opcode 0xE5 (R213). -/
def execSbcZp (o : Byte) (s : State) : Result := decodeF2 0xE5 o s

/-- SBC, Immediate, opcode 0xE9 (R213). -/
def execSbcImm (o : Byte) (s : State) : Result := decodeF2 0xE9 o s

/-- SBC, Absolute, opcode 0xED (R213). -/
def execSbcAbs (lo hi : Byte) (s : State) : Result := decodeF3 0xED lo hi s

/-- SBC, IndirectIndexed, opcode 0xF1 (R213). -/
def execSbcIzy (o : Byte) (s : State) : Result := decodeF2 0xF1 o s

/-- SBC, ZeroPageX, opcode 0xF5 (R213). -/
def execSbcZpx (o : Byte) (s : State) : Result := decodeF2 0xF5 o s

/-- SBC, AbsoluteY, opcode 0xF9 (R213). -/
def execSbcAby (lo hi : Byte) (s : State) : Result := decodeF3 0xF9 lo hi s

/-- SBC, AbsoluteX, opcode 0xFD (R213). -/
def execSbcAbx (lo hi : Byte) (s : State) : Result := decodeF3 0xFD lo hi s

/-- AND, IndexedIndirect, opcode 0x21 (R214). -/
def execAndIzx (o : Byte) (s : State) : Result := decodeF2 0x21 o s

/-- AND, ZeroPage, opcode 0x25 (R214). -/
def execAndZp (o : Byte) (s : State) : Result := decodeF2 0x25 o s

/-- AND, Immediate, opcode 0x29 (R214). -/
def execAndImm (o : Byte) (s : State) : Result := decodeF2 0x29 o s

/-- AND, Absolute, opcode 0x2D (R214). -/
def execAndAbs (lo hi : Byte) (s : State) : Result := decodeF3 0x2D lo hi s

/-- AND, IndirectIndexed, opcode 0x31 (R214). -/
def execAndIzy (o : Byte) (s : State) : Result := decodeF2 0x31 o s

/-- AND, ZeroPageX, opcode 0x35 (R214). -/
def execAndZpx (o : Byte) (s : State) : Result := decodeF2 0x35 o s

/-- AND, AbsoluteY, opcode 0x39 (R214). -/
def execAndAby (lo hi : Byte) (s : State) : Result := decodeF3 0x39 lo hi s

/-- AND, AbsoluteX, opcode 0x3D (R214). -/
def execAndAbx (lo hi : Byte) (s : State) : Result := decodeF3 0x3D lo hi s

/-- ORA, IndexedIndirect, opcode 0x01 (R215). -/
def execOraIzx (o : Byte) (s : State) : Result := decodeF2 0x01 o s

/-- ORA, ZeroPage, opcode 0x05 (R215). -/
def execOraZp (o : Byte) (s : State) : Result := decodeF2 0x05 o s

/-- ORA, Immediate, opcode 0x09 (R215). -/
def execOraImm (o : Byte) (s : State) : Result := decodeF2 0x09 o s

/-- ORA, Absolute, opcode 0x0D (R215). -/
def execOraAbs (lo hi : Byte) (s : State) : Result := decodeF3 0x0D lo hi s

/-- ORA, IndirectIndexed, opcode 0x11 (R215). -/
def execOraIzy (o : Byte) (s : State) : Result := decodeF2 0x11 o s

/-- ORA, ZeroPageX, opcode 0x15 (R215). -/
def execOraZpx (o : Byte) (s : State) : Result := decodeF2 0x15 o s

/-- ORA, AbsoluteY, opcode 0x19 (R215). -/
def execOraAby (lo hi : Byte) (s : State) : Result := decodeF3 0x19 lo hi s

/-- ORA, AbsoluteX, opcode 0x1D (R215). -/
def execOraAbx (lo hi : Byte) (s : State) : Result := decodeF3 0x1D lo hi s

/-- EOR, IndexedIndirect, opcode 0x41 (R216). -/
def execEorIzx (o : Byte) (s : State) : Result := decodeF2 0x41 o s

/-- EOR, ZeroPage, opcode 0x45 (R216). -/
def execEorZp (o : Byte) (s : State) : Result := decodeF2 0x45 o s

/-- EOR, Immediate, opcode 0x49 (R216). -/
def execEorImm (o : Byte) (s : State) : Result := decodeF2 0x49 o s

/-- EOR, Absolute, opcode 0x4D (R216). -/
def execEorAbs (lo hi : Byte) (s : State) : Result := decodeF3 0x4D lo hi s

/-- EOR, IndirectIndexed, opcode 0x51 (R216). -/
def execEorIzy (o : Byte) (s : State) : Result := decodeF2 0x51 o s

/-- EOR, ZeroPageX, opcode 0x55 (R216). -/
def execEorZpx (o : Byte) (s : State) : Result := decodeF2 0x55 o s

/-- EOR, AbsoluteY, opcode 0x59 (R216). -/
def execEorAby (lo hi : Byte) (s : State) : Result := decodeF3 0x59 lo hi s

/-- EOR, AbsoluteX, opcode 0x5D (R216). -/
def execEorAbx (lo hi : Byte) (s : State) : Result := decodeF3 0x5D lo hi s

/-- CMP, IndexedIndirect, opcode 0xC1 (R217). -/
def execCmpIzx (o : Byte) (s : State) : Result := decodeF2 0xC1 o s

/-- CMP, ZeroPage, opcode 0xC5 (R217). -/
def execCmpZp (o : Byte) (s : State) : Result := decodeF2 0xC5 o s

/-- CMP, Immediate, opcode 0xC9 (R217). -/
def execCmpImm (o : Byte) (s : State) : Result := decodeF2 0xC9 o s

/-- CMP, Absolute, opcode 0xCD (R217). -/
def execCmpAbs (lo hi : Byte) (s : State) : Result := decodeF3 0xCD lo hi s

/-- CMP, IndirectIndexed, opcode 0xD1 (R217). -/
def execCmpIzy (o : Byte) (s : State) : Result := decodeF2 0xD1 o s

/-- CMP, ZeroPageX, opcode 0xD5 (R217). -/
def execCmpZpx (o : Byte) (s : State) : Result := decodeF2 0xD5 o s

/-- CMP, AbsoluteY, opcode 0xD9 (R217). -/
def execCmpAby (lo hi : Byte) (s : State) : Result := decodeF3 0xD9 lo hi s

/-- CMP, AbsoluteX, opcode 0xDD (R217). -/
def execCmpAbx (lo hi : Byte) (s : State) : Result := decodeF3 0xDD lo hi s

/-- CPX, Immediate, opcode 0xE0 (R218). -/
def execCpxImm (o : Byte) (s : State) : Result := decodeF2 0xE0 o s

/-- CPX, ZeroPage, opcode 0xE4 (R218). -/
def execCpxZp (o : Byte) (s : State) : Result := decodeF2 0xE4 o s

/-- CPX, Absolute, opcode 0xEC (R218). -/
def execCpxAbs (lo hi : Byte) (s : State) : Result := decodeF3 0xEC lo hi s

/-- CPY, Immediate, opcode 0xC0 (R219). -/
def execCpyImm (o : Byte) (s : State) : Result := decodeF2 0xC0 o s

/-- CPY, ZeroPage, opcode 0xC4 (R219). -/
def execCpyZp (o : Byte) (s : State) : Result := decodeF2 0xC4 o s

/-- CPY, Absolute, opcode 0xCC (R219). -/
def execCpyAbs (lo hi : Byte) (s : State) : Result := decodeF3 0xCC lo hi s

/-- BIT, ZeroPage, opcode 0x24 (R220). -/
def execBitZp (o : Byte) (s : State) : Result := decodeF2 0x24 o s

/-- BIT, Absolute, opcode 0x2C (R220). -/
def execBitAbs (lo hi : Byte) (s : State) : Result := decodeF3 0x2C lo hi s

end Sys2Proof.Machine
end

