-- ==== Sys2Proof/Machine/Control.lean ====
section
/-! DEFINITION. Jump, subroutine, interrupt-return and branch instructions (spec/46_control.md): the meaning of each,
which is to be decoded: one record emitted, the cursor moved past the instruction (spec/41_decode_sequencer.md R114).
The block does not execute it (spec/00_scope.md R4). -/

namespace Sys2Proof.Machine

/-- JMP, Absolute, opcode 0x4C (R231). -/
def execJmpAbs (lo hi : Byte) (s : State) : Result := decodeF3 0x4C lo hi s

/-- JMP, Indirect, opcode 0x6C (R231). -/
def execJmpInd (lo hi : Byte) (s : State) : Result := decodeF3 0x6C lo hi s

/-- JSR, Absolute, opcode 0x20 (R232). -/
def execJsrAbs (lo hi : Byte) (s : State) : Result := decodeF3 0x20 lo hi s

/-- RTS, Implied, opcode 0x60 (R233). -/
def execRtsImp (s : State) : Result := decodeF1 0x60 s

/-- RTI, Implied, opcode 0x40 (R234). -/
def execRtiImp (s : State) : Result := decodeF1 0x40 s

/-- BRK, Implied, opcode 0x00 (R235). -/
def execBrkImp (s : State) : Result := decodeF1 0x00 s

/-- BPL, Relative, opcode 0x10 (R236). -/
def execBplRel (o : Byte) (s : State) : Result := decodeF2 0x10 o s

/-- BMI, Relative, opcode 0x30 (R237). -/
def execBmiRel (o : Byte) (s : State) : Result := decodeF2 0x30 o s

/-- BVC, Relative, opcode 0x50 (R238). -/
def execBvcRel (o : Byte) (s : State) : Result := decodeF2 0x50 o s

/-- BVS, Relative, opcode 0x70 (R239). -/
def execBvsRel (o : Byte) (s : State) : Result := decodeF2 0x70 o s

/-- BCC, Relative, opcode 0x90 (R240). -/
def execBccRel (o : Byte) (s : State) : Result := decodeF2 0x90 o s

/-- BCS, Relative, opcode 0xB0 (R241). -/
def execBcsRel (o : Byte) (s : State) : Result := decodeF2 0xB0 o s

/-- BNE, Relative, opcode 0xD0 (R242). -/
def execBneRel (o : Byte) (s : State) : Result := decodeF2 0xD0 o s

/-- BEQ, Relative, opcode 0xF0 (R243). -/
def execBeqRel (o : Byte) (s : State) : Result := decodeF2 0xF0 o s

end Sys2Proof.Machine
end

