-- ==== Sys2Proof/Machine/FlagsStack.lean ====
section
/-! DEFINITION. Flag, stack and NOP instructions (spec/47_flags_stack_nop.md): the meaning of each, which is to be
decoded: one record emitted, the cursor moved past the instruction (spec/41_decode_sequencer.md R114). The block does
not execute it (spec/00_scope.md R4). -/

namespace Sys2Proof.Machine

/-- CLC, Implied, opcode 0x18 (R244). -/
def execClcImp (s : State) : Result := decodeF1 0x18 s

/-- SEC, Implied, opcode 0x38 (R245). -/
def execSecImp (s : State) : Result := decodeF1 0x38 s

/-- CLI, Implied, opcode 0x58 (R246). -/
def execCliImp (s : State) : Result := decodeF1 0x58 s

/-- SEI, Implied, opcode 0x78 (R247). -/
def execSeiImp (s : State) : Result := decodeF1 0x78 s

/-- CLD, Implied, opcode 0xD8 (R248). -/
def execCldImp (s : State) : Result := decodeF1 0xD8 s

/-- SED, Implied, opcode 0xF8 (R249). -/
def execSedImp (s : State) : Result := decodeF1 0xF8 s

/-- CLV, Implied, opcode 0xB8 (R250). -/
def execClvImp (s : State) : Result := decodeF1 0xB8 s

/-- PHA, Implied, opcode 0x48 (R251). -/
def execPhaImp (s : State) : Result := decodeF1 0x48 s

/-- PLA, Implied, opcode 0x68 (R252). -/
def execPlaImp (s : State) : Result := decodeF1 0x68 s

/-- PHP, Implied, opcode 0x08 (R253). -/
def execPhpImp (s : State) : Result := decodeF1 0x08 s

/-- PLP, Implied, opcode 0x28 (R254). -/
def execPlpImp (s : State) : Result := decodeF1 0x28 s

/-- NOP, Implied, opcode 0xEA (R255). -/
def execNopImp (s : State) : Result := decodeF1 0xEA s

end Sys2Proof.Machine
end

