-- ==== Sys2Proof/Machine/LoadStore.lean ====
section
/-! DEFINITION. Load, store and transfer instructions (spec/43_load_store_transfer.md): the meaning of each, which is
to be decoded: one record emitted, the cursor moved past the instruction (spec/41_decode_sequencer.md R114). The block
does not execute it (spec/00_scope.md R4). -/

namespace Sys2Proof.Machine

/-- LDA, IndexedIndirect, opcode 0xA1 (R200). -/
def execLdaIzx (o : Byte) (s : State) : Result := decodeF2 0xA1 o s

/-- LDA, ZeroPage, opcode 0xA5 (R200). -/
def execLdaZp (o : Byte) (s : State) : Result := decodeF2 0xA5 o s

/-- LDA, Immediate, opcode 0xA9 (R200). -/
def execLdaImm (o : Byte) (s : State) : Result := decodeF2 0xA9 o s

/-- LDA, Absolute, opcode 0xAD (R200). -/
def execLdaAbs (lo hi : Byte) (s : State) : Result := decodeF3 0xAD lo hi s

/-- LDA, IndirectIndexed, opcode 0xB1 (R200). -/
def execLdaIzy (o : Byte) (s : State) : Result := decodeF2 0xB1 o s

/-- LDA, ZeroPageX, opcode 0xB5 (R200). -/
def execLdaZpx (o : Byte) (s : State) : Result := decodeF2 0xB5 o s

/-- LDA, AbsoluteY, opcode 0xB9 (R200). -/
def execLdaAby (lo hi : Byte) (s : State) : Result := decodeF3 0xB9 lo hi s

/-- LDA, AbsoluteX, opcode 0xBD (R200). -/
def execLdaAbx (lo hi : Byte) (s : State) : Result := decodeF3 0xBD lo hi s

/-- LDX, Immediate, opcode 0xA2 (R201). -/
def execLdxImm (o : Byte) (s : State) : Result := decodeF2 0xA2 o s

/-- LDX, ZeroPage, opcode 0xA6 (R201). -/
def execLdxZp (o : Byte) (s : State) : Result := decodeF2 0xA6 o s

/-- LDX, Absolute, opcode 0xAE (R201). -/
def execLdxAbs (lo hi : Byte) (s : State) : Result := decodeF3 0xAE lo hi s

/-- LDX, ZeroPageY, opcode 0xB6 (R201). -/
def execLdxZpy (o : Byte) (s : State) : Result := decodeF2 0xB6 o s

/-- LDX, AbsoluteY, opcode 0xBE (R201). -/
def execLdxAby (lo hi : Byte) (s : State) : Result := decodeF3 0xBE lo hi s

/-- LDY, Immediate, opcode 0xA0 (R202). -/
def execLdyImm (o : Byte) (s : State) : Result := decodeF2 0xA0 o s

/-- LDY, ZeroPage, opcode 0xA4 (R202). -/
def execLdyZp (o : Byte) (s : State) : Result := decodeF2 0xA4 o s

/-- LDY, Absolute, opcode 0xAC (R202). -/
def execLdyAbs (lo hi : Byte) (s : State) : Result := decodeF3 0xAC lo hi s

/-- LDY, ZeroPageX, opcode 0xB4 (R202). -/
def execLdyZpx (o : Byte) (s : State) : Result := decodeF2 0xB4 o s

/-- LDY, AbsoluteX, opcode 0xBC (R202). -/
def execLdyAbx (lo hi : Byte) (s : State) : Result := decodeF3 0xBC lo hi s

/-- STA, IndexedIndirect, opcode 0x81 (R203). -/
def execStaIzx (o : Byte) (s : State) : Result := decodeF2 0x81 o s

/-- STA, ZeroPage, opcode 0x85 (R203). -/
def execStaZp (o : Byte) (s : State) : Result := decodeF2 0x85 o s

/-- STA, Absolute, opcode 0x8D (R203). -/
def execStaAbs (lo hi : Byte) (s : State) : Result := decodeF3 0x8D lo hi s

/-- STA, IndirectIndexed, opcode 0x91 (R203). -/
def execStaIzy (o : Byte) (s : State) : Result := decodeF2 0x91 o s

/-- STA, ZeroPageX, opcode 0x95 (R203). -/
def execStaZpx (o : Byte) (s : State) : Result := decodeF2 0x95 o s

/-- STA, AbsoluteY, opcode 0x99 (R203). -/
def execStaAby (lo hi : Byte) (s : State) : Result := decodeF3 0x99 lo hi s

/-- STA, AbsoluteX, opcode 0x9D (R203). -/
def execStaAbx (lo hi : Byte) (s : State) : Result := decodeF3 0x9D lo hi s

/-- STX, ZeroPage, opcode 0x86 (R204). -/
def execStxZp (o : Byte) (s : State) : Result := decodeF2 0x86 o s

/-- STX, Absolute, opcode 0x8E (R204). -/
def execStxAbs (lo hi : Byte) (s : State) : Result := decodeF3 0x8E lo hi s

/-- STX, ZeroPageY, opcode 0x96 (R204). -/
def execStxZpy (o : Byte) (s : State) : Result := decodeF2 0x96 o s

/-- STY, ZeroPage, opcode 0x84 (R205). -/
def execStyZp (o : Byte) (s : State) : Result := decodeF2 0x84 o s

/-- STY, Absolute, opcode 0x8C (R205). -/
def execStyAbs (lo hi : Byte) (s : State) : Result := decodeF3 0x8C lo hi s

/-- STY, ZeroPageX, opcode 0x94 (R205). -/
def execStyZpx (o : Byte) (s : State) : Result := decodeF2 0x94 o s

/-- TAX, Implied, opcode 0xAA (R206). -/
def execTaxImp (s : State) : Result := decodeF1 0xAA s

/-- TAY, Implied, opcode 0xA8 (R207). -/
def execTayImp (s : State) : Result := decodeF1 0xA8 s

/-- TXA, Implied, opcode 0x8A (R208). -/
def execTxaImp (s : State) : Result := decodeF1 0x8A s

/-- TYA, Implied, opcode 0x98 (R209). -/
def execTyaImp (s : State) : Result := decodeF1 0x98 s

/-- TSX, Implied, opcode 0xBA (R210). -/
def execTsxImp (s : State) : Result := decodeF1 0xBA s

/-- TXS, Implied, opcode 0x9A (R211). -/
def execTxsImp (s : State) : Result := decodeF1 0x9A s

end Sys2Proof.Machine
end

