-- ==== Sys2Proof/Machine/ShiftIncDec.lean ====
section
/-! DEFINITION. Shift, rotate, increment and decrement instructions (spec/45_shift_incdec.md): the meaning of each,
which is to be decoded: one record emitted, the cursor moved past the instruction (spec/41_decode_sequencer.md R114).
The block does not execute it (spec/00_scope.md R4). -/

namespace Sys2Proof.Machine

/-- ASL, ZeroPage, opcode 0x06 (R221). -/
def execAslZp (o : Byte) (s : State) : Result := decodeF2 0x06 o s

/-- ASL, Accumulator, opcode 0x0A (R221). -/
def execAslAcc (s : State) : Result := decodeF1 0x0A s

/-- ASL, Absolute, opcode 0x0E (R221). -/
def execAslAbs (lo hi : Byte) (s : State) : Result := decodeF3 0x0E lo hi s

/-- ASL, ZeroPageX, opcode 0x16 (R221). -/
def execAslZpx (o : Byte) (s : State) : Result := decodeF2 0x16 o s

/-- ASL, AbsoluteX, opcode 0x1E (R221). -/
def execAslAbx (lo hi : Byte) (s : State) : Result := decodeF3 0x1E lo hi s

/-- LSR, ZeroPage, opcode 0x46 (R222). -/
def execLsrZp (o : Byte) (s : State) : Result := decodeF2 0x46 o s

/-- LSR, Accumulator, opcode 0x4A (R222). -/
def execLsrAcc (s : State) : Result := decodeF1 0x4A s

/-- LSR, Absolute, opcode 0x4E (R222). -/
def execLsrAbs (lo hi : Byte) (s : State) : Result := decodeF3 0x4E lo hi s

/-- LSR, ZeroPageX, opcode 0x56 (R222). -/
def execLsrZpx (o : Byte) (s : State) : Result := decodeF2 0x56 o s

/-- LSR, AbsoluteX, opcode 0x5E (R222). -/
def execLsrAbx (lo hi : Byte) (s : State) : Result := decodeF3 0x5E lo hi s

/-- ROL, ZeroPage, opcode 0x26 (R223). -/
def execRolZp (o : Byte) (s : State) : Result := decodeF2 0x26 o s

/-- ROL, Accumulator, opcode 0x2A (R223). -/
def execRolAcc (s : State) : Result := decodeF1 0x2A s

/-- ROL, Absolute, opcode 0x2E (R223). -/
def execRolAbs (lo hi : Byte) (s : State) : Result := decodeF3 0x2E lo hi s

/-- ROL, ZeroPageX, opcode 0x36 (R223). -/
def execRolZpx (o : Byte) (s : State) : Result := decodeF2 0x36 o s

/-- ROL, AbsoluteX, opcode 0x3E (R223). -/
def execRolAbx (lo hi : Byte) (s : State) : Result := decodeF3 0x3E lo hi s

/-- ROR, ZeroPage, opcode 0x66 (R224). -/
def execRorZp (o : Byte) (s : State) : Result := decodeF2 0x66 o s

/-- ROR, Accumulator, opcode 0x6A (R224). -/
def execRorAcc (s : State) : Result := decodeF1 0x6A s

/-- ROR, Absolute, opcode 0x6E (R224). -/
def execRorAbs (lo hi : Byte) (s : State) : Result := decodeF3 0x6E lo hi s

/-- ROR, ZeroPageX, opcode 0x76 (R224). -/
def execRorZpx (o : Byte) (s : State) : Result := decodeF2 0x76 o s

/-- ROR, AbsoluteX, opcode 0x7E (R224). -/
def execRorAbx (lo hi : Byte) (s : State) : Result := decodeF3 0x7E lo hi s

/-- INC, ZeroPage, opcode 0xE6 (R225). -/
def execIncZp (o : Byte) (s : State) : Result := decodeF2 0xE6 o s

/-- INC, Absolute, opcode 0xEE (R225). -/
def execIncAbs (lo hi : Byte) (s : State) : Result := decodeF3 0xEE lo hi s

/-- INC, ZeroPageX, opcode 0xF6 (R225). -/
def execIncZpx (o : Byte) (s : State) : Result := decodeF2 0xF6 o s

/-- INC, AbsoluteX, opcode 0xFE (R225). -/
def execIncAbx (lo hi : Byte) (s : State) : Result := decodeF3 0xFE lo hi s

/-- DEC, ZeroPage, opcode 0xC6 (R226). -/
def execDecZp (o : Byte) (s : State) : Result := decodeF2 0xC6 o s

/-- DEC, Absolute, opcode 0xCE (R226). -/
def execDecAbs (lo hi : Byte) (s : State) : Result := decodeF3 0xCE lo hi s

/-- DEC, ZeroPageX, opcode 0xD6 (R226). -/
def execDecZpx (o : Byte) (s : State) : Result := decodeF2 0xD6 o s

/-- DEC, AbsoluteX, opcode 0xDE (R226). -/
def execDecAbx (lo hi : Byte) (s : State) : Result := decodeF3 0xDE lo hi s

/-- INX, Implied, opcode 0xE8 (R227). -/
def execInxImp (s : State) : Result := decodeF1 0xE8 s

/-- INY, Implied, opcode 0xC8 (R228). -/
def execInyImp (s : State) : Result := decodeF1 0xC8 s

/-- DEX, Implied, opcode 0xCA (R229). -/
def execDexImp (s : State) : Result := decodeF1 0xCA s

/-- DEY, Implied, opcode 0x88 (R230). -/
def execDeyImp (s : State) : Result := decodeF1 0x88 s

end Sys2Proof.Machine
end

