-- ==== Sys2Proof/Machine/Undocumented.lean ====
section
/-! DEFINITION. The undocumented (illegal) instructions (spec/48_undocumented.md): the meaning of each, which is to be
decoded: one record emitted, the cursor moved past the instruction (spec/41_decode_sequencer.md R114). The block does
not execute it (spec/00_scope.md R4). -/

namespace Sys2Proof.Machine

/-- slo, IndexedIndirect, opcode 0x03 (R260). -/
def execXSloIzx (o : Byte) (s : State) : Result := decodeF2 0x03 o s

/-- slo, ZeroPage, opcode 0x07 (R260). -/
def execXSloZp (o : Byte) (s : State) : Result := decodeF2 0x07 o s

/-- slo, Absolute, opcode 0x0F (R260). -/
def execXSloAbs (lo hi : Byte) (s : State) : Result := decodeF3 0x0F lo hi s

/-- slo, IndirectIndexed, opcode 0x13 (R260). -/
def execXSloIzy (o : Byte) (s : State) : Result := decodeF2 0x13 o s

/-- slo, ZeroPageX, opcode 0x17 (R260). -/
def execXSloZpx (o : Byte) (s : State) : Result := decodeF2 0x17 o s

/-- slo, AbsoluteY, opcode 0x1B (R260). -/
def execXSloAby (lo hi : Byte) (s : State) : Result := decodeF3 0x1B lo hi s

/-- slo, AbsoluteX, opcode 0x1F (R260). -/
def execXSloAbx (lo hi : Byte) (s : State) : Result := decodeF3 0x1F lo hi s

/-- rla, IndexedIndirect, opcode 0x23 (R261). -/
def execXRlaIzx (o : Byte) (s : State) : Result := decodeF2 0x23 o s

/-- rla, ZeroPage, opcode 0x27 (R261). -/
def execXRlaZp (o : Byte) (s : State) : Result := decodeF2 0x27 o s

/-- rla, Absolute, opcode 0x2F (R261). -/
def execXRlaAbs (lo hi : Byte) (s : State) : Result := decodeF3 0x2F lo hi s

/-- rla, IndirectIndexed, opcode 0x33 (R261). -/
def execXRlaIzy (o : Byte) (s : State) : Result := decodeF2 0x33 o s

/-- rla, ZeroPageX, opcode 0x37 (R261). -/
def execXRlaZpx (o : Byte) (s : State) : Result := decodeF2 0x37 o s

/-- rla, AbsoluteY, opcode 0x3B (R261). -/
def execXRlaAby (lo hi : Byte) (s : State) : Result := decodeF3 0x3B lo hi s

/-- rla, AbsoluteX, opcode 0x3F (R261). -/
def execXRlaAbx (lo hi : Byte) (s : State) : Result := decodeF3 0x3F lo hi s

/-- sre, IndexedIndirect, opcode 0x43 (R262). -/
def execXSreIzx (o : Byte) (s : State) : Result := decodeF2 0x43 o s

/-- sre, ZeroPage, opcode 0x47 (R262). -/
def execXSreZp (o : Byte) (s : State) : Result := decodeF2 0x47 o s

/-- sre, Absolute, opcode 0x4F (R262). -/
def execXSreAbs (lo hi : Byte) (s : State) : Result := decodeF3 0x4F lo hi s

/-- sre, IndirectIndexed, opcode 0x53 (R262). -/
def execXSreIzy (o : Byte) (s : State) : Result := decodeF2 0x53 o s

/-- sre, ZeroPageX, opcode 0x57 (R262). -/
def execXSreZpx (o : Byte) (s : State) : Result := decodeF2 0x57 o s

/-- sre, AbsoluteY, opcode 0x5B (R262). -/
def execXSreAby (lo hi : Byte) (s : State) : Result := decodeF3 0x5B lo hi s

/-- sre, AbsoluteX, opcode 0x5F (R262). -/
def execXSreAbx (lo hi : Byte) (s : State) : Result := decodeF3 0x5F lo hi s

/-- rra, IndexedIndirect, opcode 0x63 (R263). -/
def execXRraIzx (o : Byte) (s : State) : Result := decodeF2 0x63 o s

/-- rra, ZeroPage, opcode 0x67 (R263). -/
def execXRraZp (o : Byte) (s : State) : Result := decodeF2 0x67 o s

/-- rra, Absolute, opcode 0x6F (R263). -/
def execXRraAbs (lo hi : Byte) (s : State) : Result := decodeF3 0x6F lo hi s

/-- rra, IndirectIndexed, opcode 0x73 (R263). -/
def execXRraIzy (o : Byte) (s : State) : Result := decodeF2 0x73 o s

/-- rra, ZeroPageX, opcode 0x77 (R263). -/
def execXRraZpx (o : Byte) (s : State) : Result := decodeF2 0x77 o s

/-- rra, AbsoluteY, opcode 0x7B (R263). -/
def execXRraAby (lo hi : Byte) (s : State) : Result := decodeF3 0x7B lo hi s

/-- rra, AbsoluteX, opcode 0x7F (R263). -/
def execXRraAbx (lo hi : Byte) (s : State) : Result := decodeF3 0x7F lo hi s

/-- sax, IndexedIndirect, opcode 0x83 (R264). -/
def execXSaxIzx (o : Byte) (s : State) : Result := decodeF2 0x83 o s

/-- sax, ZeroPage, opcode 0x87 (R264). -/
def execXSaxZp (o : Byte) (s : State) : Result := decodeF2 0x87 o s

/-- sax, Absolute, opcode 0x8F (R264). -/
def execXSaxAbs (lo hi : Byte) (s : State) : Result := decodeF3 0x8F lo hi s

/-- sax, ZeroPageY, opcode 0x97 (R264). -/
def execXSaxZpy (o : Byte) (s : State) : Result := decodeF2 0x97 o s

/-- lax, IndexedIndirect, opcode 0xA3 (R265). -/
def execXLaxIzx (o : Byte) (s : State) : Result := decodeF2 0xA3 o s

/-- lax, ZeroPage, opcode 0xA7 (R265). -/
def execXLaxZp (o : Byte) (s : State) : Result := decodeF2 0xA7 o s

/-- lax, Immediate, opcode 0xAB (R265). -/
def execXLaxImm (o : Byte) (s : State) : Result := decodeF2 0xAB o s

/-- lax, Absolute, opcode 0xAF (R265). -/
def execXLaxAbs (lo hi : Byte) (s : State) : Result := decodeF3 0xAF lo hi s

/-- lax, IndirectIndexed, opcode 0xB3 (R265). -/
def execXLaxIzy (o : Byte) (s : State) : Result := decodeF2 0xB3 o s

/-- lax, ZeroPageY, opcode 0xB7 (R265). -/
def execXLaxZpy (o : Byte) (s : State) : Result := decodeF2 0xB7 o s

/-- lax, AbsoluteY, opcode 0xBF (R265). -/
def execXLaxAby (lo hi : Byte) (s : State) : Result := decodeF3 0xBF lo hi s

/-- dcp, IndexedIndirect, opcode 0xC3 (R266). -/
def execXDcpIzx (o : Byte) (s : State) : Result := decodeF2 0xC3 o s

/-- dcp, ZeroPage, opcode 0xC7 (R266). -/
def execXDcpZp (o : Byte) (s : State) : Result := decodeF2 0xC7 o s

/-- dcp, Absolute, opcode 0xCF (R266). -/
def execXDcpAbs (lo hi : Byte) (s : State) : Result := decodeF3 0xCF lo hi s

/-- dcp, IndirectIndexed, opcode 0xD3 (R266). -/
def execXDcpIzy (o : Byte) (s : State) : Result := decodeF2 0xD3 o s

/-- dcp, ZeroPageX, opcode 0xD7 (R266). -/
def execXDcpZpx (o : Byte) (s : State) : Result := decodeF2 0xD7 o s

/-- dcp, AbsoluteY, opcode 0xDB (R266). -/
def execXDcpAby (lo hi : Byte) (s : State) : Result := decodeF3 0xDB lo hi s

/-- dcp, AbsoluteX, opcode 0xDF (R266). -/
def execXDcpAbx (lo hi : Byte) (s : State) : Result := decodeF3 0xDF lo hi s

/-- isc, IndexedIndirect, opcode 0xE3 (R267). -/
def execXIscIzx (o : Byte) (s : State) : Result := decodeF2 0xE3 o s

/-- isc, ZeroPage, opcode 0xE7 (R267). -/
def execXIscZp (o : Byte) (s : State) : Result := decodeF2 0xE7 o s

/-- isc, Absolute, opcode 0xEF (R267). -/
def execXIscAbs (lo hi : Byte) (s : State) : Result := decodeF3 0xEF lo hi s

/-- isc, IndirectIndexed, opcode 0xF3 (R267). -/
def execXIscIzy (o : Byte) (s : State) : Result := decodeF2 0xF3 o s

/-- isc, ZeroPageX, opcode 0xF7 (R267). -/
def execXIscZpx (o : Byte) (s : State) : Result := decodeF2 0xF7 o s

/-- isc, AbsoluteY, opcode 0xFB (R267). -/
def execXIscAby (lo hi : Byte) (s : State) : Result := decodeF3 0xFB lo hi s

/-- isc, AbsoluteX, opcode 0xFF (R267). -/
def execXIscAbx (lo hi : Byte) (s : State) : Result := decodeF3 0xFF lo hi s

/-- anc, Immediate, opcode 0x0B (R268). -/
def execXAncImm0B (o : Byte) (s : State) : Result := decodeF2 0x0B o s

/-- anc, Immediate, opcode 0x2B (R268). -/
def execXAncImm2B (o : Byte) (s : State) : Result := decodeF2 0x2B o s

/-- alr, Immediate, opcode 0x4B (R269). -/
def execXAlrImm (o : Byte) (s : State) : Result := decodeF2 0x4B o s

/-- arr, Immediate, opcode 0x6B (R270). -/
def execXArrImm (o : Byte) (s : State) : Result := decodeF2 0x6B o s

/-- xaa, Immediate, opcode 0x8B (R271). -/
def execXXaaImm (o : Byte) (s : State) : Result := decodeF2 0x8B o s

/-- axs, Immediate, opcode 0xCB (R272). -/
def execXAxsImm (o : Byte) (s : State) : Result := decodeF2 0xCB o s

/-- sbc, Immediate, opcode 0xEB (R273). -/
def execXSbcImm (o : Byte) (s : State) : Result := decodeF2 0xEB o s

/-- ahx, IndirectIndexed, opcode 0x93 (R274). -/
def execXAhxIzy (o : Byte) (s : State) : Result := decodeF2 0x93 o s

/-- ahx, AbsoluteY, opcode 0x9F (R274). -/
def execXAhxAby (lo hi : Byte) (s : State) : Result := decodeF3 0x9F lo hi s

/-- tas, AbsoluteY, opcode 0x9B (R275). -/
def execXTasAby (lo hi : Byte) (s : State) : Result := decodeF3 0x9B lo hi s

/-- shy, AbsoluteX, opcode 0x9C (R276). -/
def execXShyAbx (lo hi : Byte) (s : State) : Result := decodeF3 0x9C lo hi s

/-- shx, AbsoluteY, opcode 0x9E (R277). -/
def execXShxAby (lo hi : Byte) (s : State) : Result := decodeF3 0x9E lo hi s

/-- las, AbsoluteY, opcode 0xBB (R278). -/
def execXLasAby (lo hi : Byte) (s : State) : Result := decodeF3 0xBB lo hi s

/-- nop, ZeroPage, opcode 0x04 (R279). -/
def execXNopZp04 (o : Byte) (s : State) : Result := decodeF2 0x04 o s

/-- nop, Absolute, opcode 0x0C (R279). -/
def execXNopAbs (lo hi : Byte) (s : State) : Result := decodeF3 0x0C lo hi s

/-- nop, ZeroPageX, opcode 0x14 (R279). -/
def execXNopZpx14 (o : Byte) (s : State) : Result := decodeF2 0x14 o s

/-- nop, Implied, opcode 0x1A (R279). -/
def execXNopImp1A (s : State) : Result := decodeF1 0x1A s

/-- nop, AbsoluteX, opcode 0x1C (R279). -/
def execXNopAbx1C (lo hi : Byte) (s : State) : Result := decodeF3 0x1C lo hi s

/-- nop, ZeroPageX, opcode 0x34 (R279). -/
def execXNopZpx34 (o : Byte) (s : State) : Result := decodeF2 0x34 o s

/-- nop, Implied, opcode 0x3A (R279). -/
def execXNopImp3A (s : State) : Result := decodeF1 0x3A s

/-- nop, AbsoluteX, opcode 0x3C (R279). -/
def execXNopAbx3C (lo hi : Byte) (s : State) : Result := decodeF3 0x3C lo hi s

/-- nop, ZeroPage, opcode 0x44 (R279). -/
def execXNopZp44 (o : Byte) (s : State) : Result := decodeF2 0x44 o s

/-- nop, ZeroPageX, opcode 0x54 (R279). -/
def execXNopZpx54 (o : Byte) (s : State) : Result := decodeF2 0x54 o s

/-- nop, Implied, opcode 0x5A (R279). -/
def execXNopImp5A (s : State) : Result := decodeF1 0x5A s

/-- nop, AbsoluteX, opcode 0x5C (R279). -/
def execXNopAbx5C (lo hi : Byte) (s : State) : Result := decodeF3 0x5C lo hi s

/-- nop, ZeroPage, opcode 0x64 (R279). -/
def execXNopZp64 (o : Byte) (s : State) : Result := decodeF2 0x64 o s

/-- nop, ZeroPageX, opcode 0x74 (R279). -/
def execXNopZpx74 (o : Byte) (s : State) : Result := decodeF2 0x74 o s

/-- nop, Implied, opcode 0x7A (R279). -/
def execXNopImp7A (s : State) : Result := decodeF1 0x7A s

/-- nop, AbsoluteX, opcode 0x7C (R279). -/
def execXNopAbx7C (lo hi : Byte) (s : State) : Result := decodeF3 0x7C lo hi s

/-- nop, Immediate, opcode 0x80 (R279). -/
def execXNopImm80 (o : Byte) (s : State) : Result := decodeF2 0x80 o s

/-- nop, Immediate, opcode 0x82 (R279). -/
def execXNopImm82 (o : Byte) (s : State) : Result := decodeF2 0x82 o s

/-- nop, Immediate, opcode 0x89 (R279). -/
def execXNopImm89 (o : Byte) (s : State) : Result := decodeF2 0x89 o s

/-- nop, Immediate, opcode 0xC2 (R279). -/
def execXNopImmC2 (o : Byte) (s : State) : Result := decodeF2 0xC2 o s

/-- nop, ZeroPageX, opcode 0xD4 (R279). -/
def execXNopZpxD4 (o : Byte) (s : State) : Result := decodeF2 0xD4 o s

/-- nop, Implied, opcode 0xDA (R279). -/
def execXNopImpDA (s : State) : Result := decodeF1 0xDA s

/-- nop, AbsoluteX, opcode 0xDC (R279). -/
def execXNopAbxDC (lo hi : Byte) (s : State) : Result := decodeF3 0xDC lo hi s

/-- nop, Immediate, opcode 0xE2 (R279). -/
def execXNopImmE2 (o : Byte) (s : State) : Result := decodeF2 0xE2 o s

/-- nop, ZeroPageX, opcode 0xF4 (R279). -/
def execXNopZpxF4 (o : Byte) (s : State) : Result := decodeF2 0xF4 o s

/-- nop, Implied, opcode 0xFA (R279). -/
def execXNopImpFA (s : State) : Result := decodeF1 0xFA s

/-- nop, AbsoluteX, opcode 0xFC (R279). -/
def execXNopAbxFC (lo hi : Byte) (s : State) : Result := decodeF3 0xFC lo hi s

/-- kil, Implied, opcode 0x02 (R280). -/
def execXKilImp02 (s : State) : Result := decodeF1 0x02 s

/-- kil, Implied, opcode 0x12 (R280). -/
def execXKilImp12 (s : State) : Result := decodeF1 0x12 s

/-- kil, Implied, opcode 0x22 (R280). -/
def execXKilImp22 (s : State) : Result := decodeF1 0x22 s

/-- kil, Implied, opcode 0x32 (R280). -/
def execXKilImp32 (s : State) : Result := decodeF1 0x32 s

/-- kil, Implied, opcode 0x42 (R280). -/
def execXKilImp42 (s : State) : Result := decodeF1 0x42 s

/-- kil, Implied, opcode 0x52 (R280). -/
def execXKilImp52 (s : State) : Result := decodeF1 0x52 s

/-- kil, Implied, opcode 0x62 (R280). -/
def execXKilImp62 (s : State) : Result := decodeF1 0x62 s

/-- kil, Implied, opcode 0x72 (R280). -/
def execXKilImp72 (s : State) : Result := decodeF1 0x72 s

/-- kil, Implied, opcode 0x92 (R280). -/
def execXKilImp92 (s : State) : Result := decodeF1 0x92 s

/-- kil, Implied, opcode 0xB2 (R280). -/
def execXKilImpB2 (s : State) : Result := decodeF1 0xB2 s

/-- kil, Implied, opcode 0xD2 (R280). -/
def execXKilImpD2 (s : State) : Result := decodeF1 0xD2 s

/-- kil, Implied, opcode 0xF2 (R280). -/
def execXKilImpF2 (s : State) : Result := decodeF1 0xF2 s

end Sys2Proof.Machine
end

