-- ==== Sys2Proof/Machine/Dispatch.lean ====
section
/-! DEFINITION. The meaning of each instruction, by name: one arm for each row of spec/opcode_table.json. -/

namespace Sys2Proof.Machine

def exec (i : Instr) (s : State) : Host.Outcome State Fault Refusal :=
  match i with
  | .brkImp => Sys2Proof.Machine.execBrkImp s
  | .oraIzx o => Sys2Proof.Machine.execOraIzx o s
  | .xKilImp02 => Sys2Proof.Machine.execXKilImp02 s
  | .xSloIzx o => Sys2Proof.Machine.execXSloIzx o s
  | .xNopZp04 o => Sys2Proof.Machine.execXNopZp04 o s
  | .oraZp o => Sys2Proof.Machine.execOraZp o s
  | .aslZp o => Sys2Proof.Machine.execAslZp o s
  | .xSloZp o => Sys2Proof.Machine.execXSloZp o s
  | .phpImp => Sys2Proof.Machine.execPhpImp s
  | .oraImm o => Sys2Proof.Machine.execOraImm o s
  | .aslAcc => Sys2Proof.Machine.execAslAcc s
  | .xAncImm0B o => Sys2Proof.Machine.execXAncImm0B o s
  | .xNopAbs lo hi => Sys2Proof.Machine.execXNopAbs lo hi s
  | .oraAbs lo hi => Sys2Proof.Machine.execOraAbs lo hi s
  | .aslAbs lo hi => Sys2Proof.Machine.execAslAbs lo hi s
  | .xSloAbs lo hi => Sys2Proof.Machine.execXSloAbs lo hi s
  | .bplRel o => Sys2Proof.Machine.execBplRel o s
  | .oraIzy o => Sys2Proof.Machine.execOraIzy o s
  | .xKilImp12 => Sys2Proof.Machine.execXKilImp12 s
  | .xSloIzy o => Sys2Proof.Machine.execXSloIzy o s
  | .xNopZpx14 o => Sys2Proof.Machine.execXNopZpx14 o s
  | .oraZpx o => Sys2Proof.Machine.execOraZpx o s
  | .aslZpx o => Sys2Proof.Machine.execAslZpx o s
  | .xSloZpx o => Sys2Proof.Machine.execXSloZpx o s
  | .clcImp => Sys2Proof.Machine.execClcImp s
  | .oraAby lo hi => Sys2Proof.Machine.execOraAby lo hi s
  | .xNopImp1A => Sys2Proof.Machine.execXNopImp1A s
  | .xSloAby lo hi => Sys2Proof.Machine.execXSloAby lo hi s
  | .xNopAbx1C lo hi => Sys2Proof.Machine.execXNopAbx1C lo hi s
  | .oraAbx lo hi => Sys2Proof.Machine.execOraAbx lo hi s
  | .aslAbx lo hi => Sys2Proof.Machine.execAslAbx lo hi s
  | .xSloAbx lo hi => Sys2Proof.Machine.execXSloAbx lo hi s
  | .jsrAbs lo hi => Sys2Proof.Machine.execJsrAbs lo hi s
  | .andIzx o => Sys2Proof.Machine.execAndIzx o s
  | .xKilImp22 => Sys2Proof.Machine.execXKilImp22 s
  | .xRlaIzx o => Sys2Proof.Machine.execXRlaIzx o s
  | .bitZp o => Sys2Proof.Machine.execBitZp o s
  | .andZp o => Sys2Proof.Machine.execAndZp o s
  | .rolZp o => Sys2Proof.Machine.execRolZp o s
  | .xRlaZp o => Sys2Proof.Machine.execXRlaZp o s
  | .plpImp => Sys2Proof.Machine.execPlpImp s
  | .andImm o => Sys2Proof.Machine.execAndImm o s
  | .rolAcc => Sys2Proof.Machine.execRolAcc s
  | .xAncImm2B o => Sys2Proof.Machine.execXAncImm2B o s
  | .bitAbs lo hi => Sys2Proof.Machine.execBitAbs lo hi s
  | .andAbs lo hi => Sys2Proof.Machine.execAndAbs lo hi s
  | .rolAbs lo hi => Sys2Proof.Machine.execRolAbs lo hi s
  | .xRlaAbs lo hi => Sys2Proof.Machine.execXRlaAbs lo hi s
  | .bmiRel o => Sys2Proof.Machine.execBmiRel o s
  | .andIzy o => Sys2Proof.Machine.execAndIzy o s
  | .xKilImp32 => Sys2Proof.Machine.execXKilImp32 s
  | .xRlaIzy o => Sys2Proof.Machine.execXRlaIzy o s
  | .xNopZpx34 o => Sys2Proof.Machine.execXNopZpx34 o s
  | .andZpx o => Sys2Proof.Machine.execAndZpx o s
  | .rolZpx o => Sys2Proof.Machine.execRolZpx o s
  | .xRlaZpx o => Sys2Proof.Machine.execXRlaZpx o s
  | .secImp => Sys2Proof.Machine.execSecImp s
  | .andAby lo hi => Sys2Proof.Machine.execAndAby lo hi s
  | .xNopImp3A => Sys2Proof.Machine.execXNopImp3A s
  | .xRlaAby lo hi => Sys2Proof.Machine.execXRlaAby lo hi s
  | .xNopAbx3C lo hi => Sys2Proof.Machine.execXNopAbx3C lo hi s
  | .andAbx lo hi => Sys2Proof.Machine.execAndAbx lo hi s
  | .rolAbx lo hi => Sys2Proof.Machine.execRolAbx lo hi s
  | .xRlaAbx lo hi => Sys2Proof.Machine.execXRlaAbx lo hi s
  | .rtiImp => Sys2Proof.Machine.execRtiImp s
  | .eorIzx o => Sys2Proof.Machine.execEorIzx o s
  | .xKilImp42 => Sys2Proof.Machine.execXKilImp42 s
  | .xSreIzx o => Sys2Proof.Machine.execXSreIzx o s
  | .xNopZp44 o => Sys2Proof.Machine.execXNopZp44 o s
  | .eorZp o => Sys2Proof.Machine.execEorZp o s
  | .lsrZp o => Sys2Proof.Machine.execLsrZp o s
  | .xSreZp o => Sys2Proof.Machine.execXSreZp o s
  | .phaImp => Sys2Proof.Machine.execPhaImp s
  | .eorImm o => Sys2Proof.Machine.execEorImm o s
  | .lsrAcc => Sys2Proof.Machine.execLsrAcc s
  | .xAlrImm o => Sys2Proof.Machine.execXAlrImm o s
  | .jmpAbs lo hi => Sys2Proof.Machine.execJmpAbs lo hi s
  | .eorAbs lo hi => Sys2Proof.Machine.execEorAbs lo hi s
  | .lsrAbs lo hi => Sys2Proof.Machine.execLsrAbs lo hi s
  | .xSreAbs lo hi => Sys2Proof.Machine.execXSreAbs lo hi s
  | .bvcRel o => Sys2Proof.Machine.execBvcRel o s
  | .eorIzy o => Sys2Proof.Machine.execEorIzy o s
  | .xKilImp52 => Sys2Proof.Machine.execXKilImp52 s
  | .xSreIzy o => Sys2Proof.Machine.execXSreIzy o s
  | .xNopZpx54 o => Sys2Proof.Machine.execXNopZpx54 o s
  | .eorZpx o => Sys2Proof.Machine.execEorZpx o s
  | .lsrZpx o => Sys2Proof.Machine.execLsrZpx o s
  | .xSreZpx o => Sys2Proof.Machine.execXSreZpx o s
  | .cliImp => Sys2Proof.Machine.execCliImp s
  | .eorAby lo hi => Sys2Proof.Machine.execEorAby lo hi s
  | .xNopImp5A => Sys2Proof.Machine.execXNopImp5A s
  | .xSreAby lo hi => Sys2Proof.Machine.execXSreAby lo hi s
  | .xNopAbx5C lo hi => Sys2Proof.Machine.execXNopAbx5C lo hi s
  | .eorAbx lo hi => Sys2Proof.Machine.execEorAbx lo hi s
  | .lsrAbx lo hi => Sys2Proof.Machine.execLsrAbx lo hi s
  | .xSreAbx lo hi => Sys2Proof.Machine.execXSreAbx lo hi s
  | .rtsImp => Sys2Proof.Machine.execRtsImp s
  | .adcIzx o => Sys2Proof.Machine.execAdcIzx o s
  | .xKilImp62 => Sys2Proof.Machine.execXKilImp62 s
  | .xRraIzx o => Sys2Proof.Machine.execXRraIzx o s
  | .xNopZp64 o => Sys2Proof.Machine.execXNopZp64 o s
  | .adcZp o => Sys2Proof.Machine.execAdcZp o s
  | .rorZp o => Sys2Proof.Machine.execRorZp o s
  | .xRraZp o => Sys2Proof.Machine.execXRraZp o s
  | .plaImp => Sys2Proof.Machine.execPlaImp s
  | .adcImm o => Sys2Proof.Machine.execAdcImm o s
  | .rorAcc => Sys2Proof.Machine.execRorAcc s
  | .xArrImm o => Sys2Proof.Machine.execXArrImm o s
  | .jmpInd lo hi => Sys2Proof.Machine.execJmpInd lo hi s
  | .adcAbs lo hi => Sys2Proof.Machine.execAdcAbs lo hi s
  | .rorAbs lo hi => Sys2Proof.Machine.execRorAbs lo hi s
  | .xRraAbs lo hi => Sys2Proof.Machine.execXRraAbs lo hi s
  | .bvsRel o => Sys2Proof.Machine.execBvsRel o s
  | .adcIzy o => Sys2Proof.Machine.execAdcIzy o s
  | .xKilImp72 => Sys2Proof.Machine.execXKilImp72 s
  | .xRraIzy o => Sys2Proof.Machine.execXRraIzy o s
  | .xNopZpx74 o => Sys2Proof.Machine.execXNopZpx74 o s
  | .adcZpx o => Sys2Proof.Machine.execAdcZpx o s
  | .rorZpx o => Sys2Proof.Machine.execRorZpx o s
  | .xRraZpx o => Sys2Proof.Machine.execXRraZpx o s
  | .seiImp => Sys2Proof.Machine.execSeiImp s
  | .adcAby lo hi => Sys2Proof.Machine.execAdcAby lo hi s
  | .xNopImp7A => Sys2Proof.Machine.execXNopImp7A s
  | .xRraAby lo hi => Sys2Proof.Machine.execXRraAby lo hi s
  | .xNopAbx7C lo hi => Sys2Proof.Machine.execXNopAbx7C lo hi s
  | .adcAbx lo hi => Sys2Proof.Machine.execAdcAbx lo hi s
  | .rorAbx lo hi => Sys2Proof.Machine.execRorAbx lo hi s
  | .xRraAbx lo hi => Sys2Proof.Machine.execXRraAbx lo hi s
  | .xNopImm80 o => Sys2Proof.Machine.execXNopImm80 o s
  | .staIzx o => Sys2Proof.Machine.execStaIzx o s
  | .xNopImm82 o => Sys2Proof.Machine.execXNopImm82 o s
  | .xSaxIzx o => Sys2Proof.Machine.execXSaxIzx o s
  | .styZp o => Sys2Proof.Machine.execStyZp o s
  | .staZp o => Sys2Proof.Machine.execStaZp o s
  | .stxZp o => Sys2Proof.Machine.execStxZp o s
  | .xSaxZp o => Sys2Proof.Machine.execXSaxZp o s
  | .deyImp => Sys2Proof.Machine.execDeyImp s
  | .xNopImm89 o => Sys2Proof.Machine.execXNopImm89 o s
  | .txaImp => Sys2Proof.Machine.execTxaImp s
  | .xXaaImm o => Sys2Proof.Machine.execXXaaImm o s
  | .styAbs lo hi => Sys2Proof.Machine.execStyAbs lo hi s
  | .staAbs lo hi => Sys2Proof.Machine.execStaAbs lo hi s
  | .stxAbs lo hi => Sys2Proof.Machine.execStxAbs lo hi s
  | .xSaxAbs lo hi => Sys2Proof.Machine.execXSaxAbs lo hi s
  | .bccRel o => Sys2Proof.Machine.execBccRel o s
  | .staIzy o => Sys2Proof.Machine.execStaIzy o s
  | .xKilImp92 => Sys2Proof.Machine.execXKilImp92 s
  | .xAhxIzy o => Sys2Proof.Machine.execXAhxIzy o s
  | .styZpx o => Sys2Proof.Machine.execStyZpx o s
  | .staZpx o => Sys2Proof.Machine.execStaZpx o s
  | .stxZpy o => Sys2Proof.Machine.execStxZpy o s
  | .xSaxZpy o => Sys2Proof.Machine.execXSaxZpy o s
  | .tyaImp => Sys2Proof.Machine.execTyaImp s
  | .staAby lo hi => Sys2Proof.Machine.execStaAby lo hi s
  | .txsImp => Sys2Proof.Machine.execTxsImp s
  | .xTasAby lo hi => Sys2Proof.Machine.execXTasAby lo hi s
  | .xShyAbx lo hi => Sys2Proof.Machine.execXShyAbx lo hi s
  | .staAbx lo hi => Sys2Proof.Machine.execStaAbx lo hi s
  | .xShxAby lo hi => Sys2Proof.Machine.execXShxAby lo hi s
  | .xAhxAby lo hi => Sys2Proof.Machine.execXAhxAby lo hi s
  | .ldyImm o => Sys2Proof.Machine.execLdyImm o s
  | .ldaIzx o => Sys2Proof.Machine.execLdaIzx o s
  | .ldxImm o => Sys2Proof.Machine.execLdxImm o s
  | .xLaxIzx o => Sys2Proof.Machine.execXLaxIzx o s
  | .ldyZp o => Sys2Proof.Machine.execLdyZp o s
  | .ldaZp o => Sys2Proof.Machine.execLdaZp o s
  | .ldxZp o => Sys2Proof.Machine.execLdxZp o s
  | .xLaxZp o => Sys2Proof.Machine.execXLaxZp o s
  | .tayImp => Sys2Proof.Machine.execTayImp s
  | .ldaImm o => Sys2Proof.Machine.execLdaImm o s
  | .taxImp => Sys2Proof.Machine.execTaxImp s
  | .xLaxImm o => Sys2Proof.Machine.execXLaxImm o s
  | .ldyAbs lo hi => Sys2Proof.Machine.execLdyAbs lo hi s
  | .ldaAbs lo hi => Sys2Proof.Machine.execLdaAbs lo hi s
  | .ldxAbs lo hi => Sys2Proof.Machine.execLdxAbs lo hi s
  | .xLaxAbs lo hi => Sys2Proof.Machine.execXLaxAbs lo hi s
  | .bcsRel o => Sys2Proof.Machine.execBcsRel o s
  | .ldaIzy o => Sys2Proof.Machine.execLdaIzy o s
  | .xKilImpB2 => Sys2Proof.Machine.execXKilImpB2 s
  | .xLaxIzy o => Sys2Proof.Machine.execXLaxIzy o s
  | .ldyZpx o => Sys2Proof.Machine.execLdyZpx o s
  | .ldaZpx o => Sys2Proof.Machine.execLdaZpx o s
  | .ldxZpy o => Sys2Proof.Machine.execLdxZpy o s
  | .xLaxZpy o => Sys2Proof.Machine.execXLaxZpy o s
  | .clvImp => Sys2Proof.Machine.execClvImp s
  | .ldaAby lo hi => Sys2Proof.Machine.execLdaAby lo hi s
  | .tsxImp => Sys2Proof.Machine.execTsxImp s
  | .xLasAby lo hi => Sys2Proof.Machine.execXLasAby lo hi s
  | .ldyAbx lo hi => Sys2Proof.Machine.execLdyAbx lo hi s
  | .ldaAbx lo hi => Sys2Proof.Machine.execLdaAbx lo hi s
  | .ldxAby lo hi => Sys2Proof.Machine.execLdxAby lo hi s
  | .xLaxAby lo hi => Sys2Proof.Machine.execXLaxAby lo hi s
  | .cpyImm o => Sys2Proof.Machine.execCpyImm o s
  | .cmpIzx o => Sys2Proof.Machine.execCmpIzx o s
  | .xNopImmC2 o => Sys2Proof.Machine.execXNopImmC2 o s
  | .xDcpIzx o => Sys2Proof.Machine.execXDcpIzx o s
  | .cpyZp o => Sys2Proof.Machine.execCpyZp o s
  | .cmpZp o => Sys2Proof.Machine.execCmpZp o s
  | .decZp o => Sys2Proof.Machine.execDecZp o s
  | .xDcpZp o => Sys2Proof.Machine.execXDcpZp o s
  | .inyImp => Sys2Proof.Machine.execInyImp s
  | .cmpImm o => Sys2Proof.Machine.execCmpImm o s
  | .dexImp => Sys2Proof.Machine.execDexImp s
  | .xAxsImm o => Sys2Proof.Machine.execXAxsImm o s
  | .cpyAbs lo hi => Sys2Proof.Machine.execCpyAbs lo hi s
  | .cmpAbs lo hi => Sys2Proof.Machine.execCmpAbs lo hi s
  | .decAbs lo hi => Sys2Proof.Machine.execDecAbs lo hi s
  | .xDcpAbs lo hi => Sys2Proof.Machine.execXDcpAbs lo hi s
  | .bneRel o => Sys2Proof.Machine.execBneRel o s
  | .cmpIzy o => Sys2Proof.Machine.execCmpIzy o s
  | .xKilImpD2 => Sys2Proof.Machine.execXKilImpD2 s
  | .xDcpIzy o => Sys2Proof.Machine.execXDcpIzy o s
  | .xNopZpxD4 o => Sys2Proof.Machine.execXNopZpxD4 o s
  | .cmpZpx o => Sys2Proof.Machine.execCmpZpx o s
  | .decZpx o => Sys2Proof.Machine.execDecZpx o s
  | .xDcpZpx o => Sys2Proof.Machine.execXDcpZpx o s
  | .cldImp => Sys2Proof.Machine.execCldImp s
  | .cmpAby lo hi => Sys2Proof.Machine.execCmpAby lo hi s
  | .xNopImpDA => Sys2Proof.Machine.execXNopImpDA s
  | .xDcpAby lo hi => Sys2Proof.Machine.execXDcpAby lo hi s
  | .xNopAbxDC lo hi => Sys2Proof.Machine.execXNopAbxDC lo hi s
  | .cmpAbx lo hi => Sys2Proof.Machine.execCmpAbx lo hi s
  | .decAbx lo hi => Sys2Proof.Machine.execDecAbx lo hi s
  | .xDcpAbx lo hi => Sys2Proof.Machine.execXDcpAbx lo hi s
  | .cpxImm o => Sys2Proof.Machine.execCpxImm o s
  | .sbcIzx o => Sys2Proof.Machine.execSbcIzx o s
  | .xNopImmE2 o => Sys2Proof.Machine.execXNopImmE2 o s
  | .xIscIzx o => Sys2Proof.Machine.execXIscIzx o s
  | .cpxZp o => Sys2Proof.Machine.execCpxZp o s
  | .sbcZp o => Sys2Proof.Machine.execSbcZp o s
  | .incZp o => Sys2Proof.Machine.execIncZp o s
  | .xIscZp o => Sys2Proof.Machine.execXIscZp o s
  | .inxImp => Sys2Proof.Machine.execInxImp s
  | .sbcImm o => Sys2Proof.Machine.execSbcImm o s
  | .nopImp => Sys2Proof.Machine.execNopImp s
  | .xSbcImm o => Sys2Proof.Machine.execXSbcImm o s
  | .cpxAbs lo hi => Sys2Proof.Machine.execCpxAbs lo hi s
  | .sbcAbs lo hi => Sys2Proof.Machine.execSbcAbs lo hi s
  | .incAbs lo hi => Sys2Proof.Machine.execIncAbs lo hi s
  | .xIscAbs lo hi => Sys2Proof.Machine.execXIscAbs lo hi s
  | .beqRel o => Sys2Proof.Machine.execBeqRel o s
  | .sbcIzy o => Sys2Proof.Machine.execSbcIzy o s
  | .xKilImpF2 => Sys2Proof.Machine.execXKilImpF2 s
  | .xIscIzy o => Sys2Proof.Machine.execXIscIzy o s
  | .xNopZpxF4 o => Sys2Proof.Machine.execXNopZpxF4 o s
  | .sbcZpx o => Sys2Proof.Machine.execSbcZpx o s
  | .incZpx o => Sys2Proof.Machine.execIncZpx o s
  | .xIscZpx o => Sys2Proof.Machine.execXIscZpx o s
  | .sedImp => Sys2Proof.Machine.execSedImp s
  | .sbcAby lo hi => Sys2Proof.Machine.execSbcAby lo hi s
  | .xNopImpFA => Sys2Proof.Machine.execXNopImpFA s
  | .xIscAby lo hi => Sys2Proof.Machine.execXIscAby lo hi s
  | .xNopAbxFC lo hi => Sys2Proof.Machine.execXNopAbxFC lo hi s
  | .sbcAbx lo hi => Sys2Proof.Machine.execSbcAbx lo hi s
  | .incAbx lo hi => Sys2Proof.Machine.execIncAbx lo hi s
  | .xIscAbx lo hi => Sys2Proof.Machine.execXIscAbx lo hi s

end Sys2Proof.Machine
end

