-- ==== Sys2Proof/Machine/Sequencer.lean ====
section
/-! DEFINITION. The decode sequencer (spec/41_decode_sequencer.md R113, R114, R119, R124) and the step of the two agents,
block and host. -/

namespace Sys2Proof.Machine

/-- Run the instruction of a fetched opcode byte and the operand bytes fetched with it. -/
def runBytes (bytes : List Byte) (s : State) : Result :=
  exec (instrOf (bytes.getD 0 0) (bytes.getD 1 0) (bytes.getD 2 0)) s

/-- The block's own step. Busy: decode the instruction at the cursor if the cursor is before the end of the data (R113,
R114), else finish (R119). In Idle and Done the block has no step of its own, and nothing changes (R124, R313;
assumption 9: a step there answers the same state). -/
def blockStep (s : State) : Result :=
  match s.phase with
  | .idle => .next s
  | .done => .next s
  | .busy =>
    orFault (readCursor s) fun c =>
    orFault (readDataEnd s) fun e =>
      if c < e then orFault (fetch s c) fun bytes => runBytes bytes s
      else .next (finish s)

/-- One step of the machine, by what the host does in it (R124, R315): nothing, so that the block steps; a Start; a reset,
which has priority over a Start in the same step (R305; assumption 18); or a write of a buffer byte. -/
def stepOf (s : State) : Result :=
  match s.hostMoves with
  | [] => blockStep s
  | .pass :: _ => blockStep (dropMove s)
  | .start r :: _ => .next (startCommand r (dropMove s))
  | .reset :: _ => .next (resetBlock (dropMove s))
  | .resetAndStart _ :: _ => .next (resetBlock (dropMove s))
  | .write o v :: _ => hostWrite o v (dropMove s)

end Sys2Proof.Machine
end

