-- ==== Sys2Proof/Machine/Step.lean ====
section
/-! DEFINITION. The step, and the placing of an instruction where the next step decodes it. -/

namespace Sys2Proof.Machine

/-- One step of the machine (spec/41_decode_sequencer.md R124). -/
def step (s : State) : Host.Outcome State Fault Refusal := stepOf s

/-- The state with an instruction, given as a word numbered as spec/opcode_table.json numbers it, stored at the cursor,
and with a request running there that reaches it, so that the next step decodes it: this stands for the host's placing
the bytes and issuing the Start (spec/70_reset_and_hazards.md R333; assumption 8). The end of the data is moved past the
instruction where it is not, the buffer is made large enough where it is not, and the host presents nothing.
DESIGN CHOICE: the Start that it stands for carries a LOAD that the host chooses (R333 step 3) and a START; they are the
fields `load` and `cursor` as they stand, from reset 0 both, so the address of the placed instruction's record shows them
(assumptions 1 and 8). OUT, `reply` and `reqStart` stay as they stand. -/
def State.withFetchWord (s : State) (nbits w : Nat) : State :=
  let c := s.cursor
  let e := max s.dataEnd (c + max 1 (nbits / 8))
  let bytes := tableBytes nbits w
  { s with
    phase := .busy
    dataEnd := e
    buf := Memory.write (Memory.write (Memory.write s.buf c (bytes.getD 0 0)) (c + 1) (bytes.getD 1 0)) (c + 2)
      (bytes.getD 2 0)
    params := { s.params with bufSize := max s.params.bufSize (e + Config.pad) }
    hostMoves := [] }

end Sys2Proof.Machine
end

