-- ==== Sys2Proof/Safety.lean ====
section
/-! DEFINITION. What the statements are said in: where the block decodes, a run of steps, the record and the listing that
the bytes of a buffer hold, how the records of OUT lie in the buffer (spec/41_decode_sequencer.md R120), and the
invariant that every step keeps. -/

namespace Sys2Proof.Machine

/-- R113, R114: a request is running and the cursor is before the end of the data, so the block decodes. -/
abbrev State.Decoding (s : State) : Prop := s.phase = .busy ∧ s.cursor < s.dataEnd

/-- `n` bytes of a buffer from an offset on (R7, `MemRead(o, n)`). -/
def bytesAt (m : Memory) (o n : Nat) : List Byte := (List.range n).map fun k => Memory.read m (o + k)

/-- The record of the instruction whose opcode byte stands at an offset. -/
def recordAt (p : Params) (m : Memory) (load : Addr) (c : Nat) : Record :=
  makeRecord p c load (Memory.read m c) (Memory.read m (c + 1)) (Memory.read m (c + 2))

/-- The records from an offset to the end of the data, each at the byte after the one before (R113, R118): the source's
loop as a function, with a bound on the number of its rounds. -/
def listing (p : Params) (m : Memory) (load : Addr) (dataEnd : Nat) : Nat → Nat → List Record
  | 0, _ => []
  | rounds + 1, c =>
    if c < dataEnd then
      recordAt p m load c :: listing p m load dataEnd rounds (c + (recordAt p m load c).length)
    else []

/-- R120: the records cover the bytes from `c` to `c'` without gap or overlap, each begins before the end of the data,
and each has the address of its first byte. -/
def Tiles (load : Addr) (dataEnd : Nat) : Nat → List Record → Nat → Prop
  | c, [], c' => c = c'
  | c, r :: rs, c' =>
    c < dataEnd ∧ r.address = recordAddress c load ∧ r.rawBytes.length = r.length ∧ 1 ≤ r.length ∧ r.length ≤ 3 ∧
      Tiles load dataEnd (c + r.length) rs c'

/-- The records are those that the buffer's bytes hold, from `c` to `c'`. -/
def ListsBytes (p : Params) (m : Memory) (load : Addr) (dataEnd : Nat) : Nat → List Record → Nat → Prop
  | c, [], c' => c = c'
  | c, r :: rs, c' => c < dataEnd ∧ r = recordAt p m load c ∧ ListsBytes p m load dataEnd (c + r.length) rs c'

/-- R8: the texts of a record are ASCII. -/
def Record.asciiTexts (r : Record) : Bool := isAscii r.mnemonic && isAscii r.operandText && isAscii r.lineText

/-- The invariant: what every step keeps, and reset has. -/
structure State.Inv (s : State) : Prop where
  /-- R5, R101, R281. -/
  params : s.params.wellFormed = true
  /-- The buffer is in canonical form. -/
  bufWf : Memory.wf s.buf
  /-- R40: the buffer has no byte at `BUF_SIZE` or beyond. -/
  bufIn : ∀ c ∈ s.buf, c.1 < s.params.bufSize
  /-- R26: in Idle, OUT is empty. -/
  idle : s.phase = .idle → s.out = []
  /-- R8. -/
  ascii : ∀ r ∈ s.out, r.asciiTexts = true
  /-- R111: a request's data and pad lie in the buffer. -/
  inBuf : s.phase ≠ .idle → s.reqStart ≤ s.dataEnd ∧ s.dataEnd + Config.pad ≤ s.params.bufSize
  /-- R120: OUT covers the bytes from START to the cursor. -/
  tiles : s.phase ≠ .idle → Tiles s.load s.dataEnd s.reqStart s.out s.cursor
  /-- R120, R123: while Busy, OUT is what the buffer's bytes from START to the cursor hold. -/
  lists : s.phase = .busy → ListsBytes s.params s.buf s.load s.dataEnd s.reqStart s.out s.cursor
  /-- R119: in Done, the cursor is at the end of the data or past it. -/
  done : s.phase = .done → s.dataEnd ≤ s.cursor

/-- The host's next move is one that the spec gives it (R315): not a write where there is no byte, nor one in the
protected range of a running request. -/
def State.HostDutiful (s : State) : Prop :=
  ∀ o v more, s.hostMoves = .write o v :: more → o < s.params.bufSize ∧ isProtected s o = false

/-- A run of `k` steps, ended by the first fault or refusal. -/
def run : Nat → State → Result
  | 0, s => .next s
  | k + 1, s =>
    match step s with
    | .next t => run k t
    | .fault e => .fault e
    | .refused e => .refused e

end Sys2Proof.Machine
end

