-- ==== Sys2Proof/Certificates/Slice0/Obligations.lean ====
section
/-! DEFINITION. The statements for the provers, each from the spec's numbered rules; OBLIGATIONS.json lists them. -/

namespace Sys2Proof.Machine

/-- The mnemonic that a record shows: the table's, or for an undocumented row the spelling that `ILLEGAL_MNEMONICS` gives
it, by default its own (R72, R281). -/
def shownMnemonic (s : State) (name : Text) (illegal : Bool) : Text :=
  if illegal then (s.params.illegalMnemonics.lookup name).getD name else name

/-- Exactly these opcode bytes have this mnemonic in the default ROM. -/
def HasExactlyTheOpcodes (name : String) (opcodes : List Byte) : Prop :=
  ∀ b : Byte, (lookup defaultRom b).mnemonic = name.toList ↔ b ∈ opcodes

/-- An instruction other than a branch: its bytes and its entry in the default ROM, and that wherever the block decodes,
under any ROM that has this entry at its opcode byte, it answers the next state in which the cursor has moved past it and this record (every field of R115) stands at the end of OUT, all else
unchanged. -/
def RecordsAs (i : Instr) (name : String) (mode : Mode) (illegal : Bool) (bytes : List Byte) (text : Text)
    (value : Option OperandValue) : Prop :=
  encode i = bytes ∧
  lookup defaultRom (bytes.headD 0) = ⟨name.toList, mode, illegal⟩ ∧
  ∀ s : State, s.Decoding → lookup s.params.rom (bytes.headD 0) = ⟨name.toList, mode, illegal⟩ →
    exec i s = .next { s with
      cursor := s.cursor + bytes.length
      out := s.out ++ [{
        address := BitVec.ofNat 16 (s.cursor + s.load.toNat)
        rawBytes := bytes
        mnemonic := shownMnemonic s name.toList illegal
        operandText := text
        opcodeByte := bytes.headD 0
        illegal := illegal
        mode := mode
        length := bytes.length
        operandValue := value
        displacement := none
        target := none
        lineText :=
          if text = [] then shownMnemonic s name.toList illegal
          else shownMnemonic s name.toList illegal ++ [' '] ++ text }] }

/-- A branch, which is documented and of mode Relative: the same, with displacement and target (R143, R144) and the
operand text of R145 in the default layout, or of another layout where `REL_FORMAT` is another. -/
def BranchesAs (i : Instr) (name : String) (opcode o : Byte) : Prop :=
  encode i = [opcode, o] ∧
  lookup defaultRom opcode = ⟨name.toList, .relative, false⟩ ∧
  ∀ s : State, s.Decoding → lookup s.params.rom opcode = ⟨name.toList, .relative, false⟩ →
    let disp : Int := o.toInt
    let target : Addr := BitVec.ofInt 16 ((s.cursor : Int) + 2 + disp + (s.load.toNat : Int))
    let text : Text :=
      match s.params.relFormat with
      | .standard =>
        "$".toList ++ hex4 target ++ " (".toList ++ (if disp ≥ 0 then "+".toList else "-".toList) ++ dec disp.natAbs ++
          ")".toList
      | .other layout => asciiText (Config.otherRelText layout target disp)
    exec i s = .next { s with
      cursor := s.cursor + 2
      out := s.out ++ [{
        address := BitVec.ofNat 16 (s.cursor + s.load.toNat)
        rawBytes := [opcode, o]
        mnemonic := name.toList
        operandText := text
        opcodeByte := opcode
        illegal := false
        mode := .relative
        length := 2
        operandValue := some (.byte o)
        displacement := some disp
        target := some target
        lineText := if text = [] then name.toList else name.toList ++ [' '] ++ text }] }

end Sys2Proof.Machine

open Sys2Proof Sys2Proof.Machine

/-- A step runs the instruction whose bytes stand at the cursor (R113, R114, 41_decode_sequencer.md section 2). -/
def Obligations.StepRunsDecodedInstruction : Prop :=
  ∀ (s : State) (i : Instr),
    s.Decoding →
    s.cursor + (encode i).length ≤ s.params.bufSize →
    bytesAt s.buf s.cursor (encode i).length = encode i →
      (s.hostMoves = [] → step s = exec i s) ∧
      (∀ more, s.hostMoves = .pass :: more → step s = exec i { s with hostMoves := more })

/-- At the end of the data a Busy step only moves the phase to Done (R119). -/
def Obligations.StepFinishesAtDataEnd : Prop :=
  ∀ s : State,
    s.phase = .busy →
    s.dataEnd ≤ s.cursor →
      (s.hostMoves = [] → step s = .next { s with phase := .done }) ∧
      (∀ more, s.hostMoves = .pass :: more → step s = .next { s with phase := .done, hostMoves := more })

/-- An accepted Start sets cursor, dataEnd and load, clears OUT, makes the block Busy (reply, reqStart: the model's
choice, entries 6, 7) (R112, 41_decode_sequencer.md section 1). -/
def Obligations.AcceptedStartSetsRequest : Prop :=
  ∀ (s : State) (r : Request) (more : List HostMove),
    s.hostMoves = .start r :: more →
    s.phase ≠ .busy →
    r.start + r.len + 2 ≤ s.params.bufSize →
      step s =
        .next { s with
          cursor := r.start
          dataEnd := r.start + r.len
          load := r.load
          out := []
          phase := .busy
          reply := some .accepted
          reqStart := r.start
          hostMoves := more }

/-- A Start is refused with code 1 while Busy and with code 2 when data and pad do not fit (the reply field is the
model's choice, entry 6) (R302, 60_exceptions.md section 1). -/
def Obligations.RefusedStartChangesNothing : Prop :=
  (∀ (s : State) (r : Request) (more : List HostMove),
    s.hostMoves = .start r :: more →
      (s.phase = .busy → step s = .next { s with reply := some (.refused .busy), hostMoves := more }) ∧
      (s.phase ≠ .busy → s.params.bufSize < r.start + r.len + 2 →
        step s = .next { s with reply := some (.refused .outOfBuffer), hostMoves := more })) ∧
  (∀ code : RefusalCode, code = .busy ∨ code = .outOfBuffer) ∧
  RefusalCode.code .busy = 1 ∧ RefusalCode.code .outOfBuffer = 2

/-- Busy is reported before OutOfBuffer, and a reset beats a Start of the same step (no answer to the lost Start, the
reply field: the model's, entries 18, 6) (R305, 60_exceptions.md section 3). -/
def Obligations.ResetWinsAndBusyIsReportedFirst : Prop :=
  ∀ (s : State) (r : Request) (more : List HostMove),
    (s.hostMoves = .start r :: more → s.phase = .busy → s.params.bufSize < r.start + r.len + 2 →
      ∃ t, step s = .next t ∧ t.reply = some (.refused .busy)) ∧
    (s.hostMoves = .resetAndStart r :: more →
      ∃ t, step s = .next t ∧ step { s with hostMoves := .reset :: more } = .next t ∧ t.phase = .idle ∧ t.out = [])

/-- Reset is accepted in every phase, clears OUT and leaves the buffer alone (R332). -/
def Obligations.ResetAbandonsTheRequest : Prop :=
  ∀ (s : State) (more : List HostMove),
    s.hostMoves = .reset :: more →
      ∃ t, step s = .next t ∧ t.phase = .idle ∧ t.out = [] ∧
        readCursor t = .error (.unwrittenRegister .cursor) ∧
        readDataEnd t = .error (.unwrittenRegister .dataEnd) ∧
        readLoad t = .error (.unwrittenRegister .load) ∧
        t.buf = s.buf ∧ t.params = s.params ∧ t.hostMoves = more ∧
        ∀ m : Memory, step { s with buf := m } = .next { t with buf := m }

/-- The reset state is Idle with OUT empty and the registers unreadable (R330, R30). -/
def Obligations.ResetLeavesIdleAndEmpty : Prop :=
  State.reset.phase = .idle ∧ State.reset.out = [] ∧
  readCursor State.reset = .error (.unwrittenRegister .cursor) ∧
  readDataEnd State.reset = .error (.unwrittenRegister .dataEnd) ∧
  readLoad State.reset = .error (.unwrittenRegister .load)

/-- In phase Idle a read of cursor, dataEnd or load faults, and no step makes such a read (exec in Idle, the reply
field: the model's, entries 10, 6) (R331, 70_reset_and_hazards.md section 1). -/
def Obligations.UnwrittenRegistersFaultAndNoStepReadsThem : Prop :=
  (∀ s : State, s.phase = .idle →
    readCursor s = .error (.unwrittenRegister .cursor) ∧
    readDataEnd s = .error (.unwrittenRegister .dataEnd) ∧
    readLoad s = .error (.unwrittenRegister .load) ∧
    (∀ i : Instr, exec i s = .fault (.unwrittenRegister .cursor)) ∧
    (∀ reg : Register, step s ≠ .fault (.unwrittenRegister reg)) ∧
    (∀ t, step s = .next t → t.phase = .idle ∨ (t.phase = .busy ∧ t.reply = some .accepted))) ∧
  (∀ s : State, s.phase ≠ .idle →
    readCursor s = .ok s.cursor ∧ readDataEnd s = .ok s.dataEnd ∧ readLoad s = .ok s.load)

/-- In Idle and Done nothing changes until the host moves (the model's stutter step, assumption 9) (R124, R313). -/
def Obligations.IdleAndDoneWaitForTheHost : Prop :=
  ∀ s : State,
    s.phase ≠ .busy →
      (s.hostMoves = [] → step s = .next s) ∧
      (∀ more, s.hostMoves = .pass :: more → step s = .next { s with hostMoves := more })

/-- A host write changes one buffer byte, and is refused inside the protected range (the model's refusals, assumption
14) (R315, R336, 93_implementation_defined.md U3). -/
def Obligations.HostWriteIsOneByteOrRefused : Prop :=
  ∀ (s : State) (o : Nat) (v : Byte) (more : List HostMove),
    Memory.wf s.buf →
    s.hostMoves = .write o v :: more →
      (o < s.params.bufSize → ¬(s.phase = .busy ∧ s.reqStart ≤ o ∧ o < s.dataEnd + 2) →
        ∃ m, step s = .next { s with buf := m, hostMoves := more } ∧ Memory.wf m ∧ Memory.read m o = v ∧
          ∀ x, x ≠ o → Memory.read m x = Memory.read s.buf x) ∧
      (o < s.params.bufSize → s.phase = .busy → s.reqStart ≤ o → o < s.dataEnd + 2 →
        step s = .refused (.hostWriteProtected o)) ∧
      (s.params.bufSize ≤ o → step s = .refused (.hostWriteOutsideBuf o))

/-- The ROM has the three entries that the source confirms (R105). -/
def Obligations.RomWorkedLookups : Prop :=
  lookup State.reset.params.rom 0x10 = ⟨"BPL".toList, .relative, false⟩ ∧
  lookup State.reset.params.rom 0xA9 = ⟨"LDA".toList, .immediate, false⟩ ∧
  lookup State.reset.params.rom 0x4C = ⟨"JMP".toList, .absolute, false⟩

/-- Every entry of the default ROM has three letters of the right case, and 151 entries are documented (R67, R72,
R101). -/
def Obligations.RomEntriesAreWellFormed : Prop :=
  let entries := defaultRom.toList.flatMap Vector.toList
  (∀ b : Byte, (lookup defaultRom b).mnemonic.length = 3 ∧
    (lookup defaultRom b).mnemonic.all
      (fun c => if (lookup defaultRom b).illegal then isLower c else isUpper c) = true) ∧
  entries.length = 256 ∧ (∀ b : Byte, entries[b.toNat]? = some (lookup defaultRom b)) ∧
  (entries.filter fun e => !e.illegal).length = 151 ∧
  (entries.filter fun e => e.illegal).length = 105 ∧
  State.reset.params.rom = defaultRom

/-- Sample words of every family decode to the instructions they stand for (R67, R61, 30_encoding.md section 1). -/
def Obligations.SampleWordsDecode : Prop :=
  decodeTableWord 16 0b00000101_10101001 = some (.ldaImm 0x05) ∧
  decodeTableWord 24 0b00010010_00110100_10001101 = some (.staAbs 0x34 0x12) ∧
  decodeTableWord 16 0b00000001_01101001 = some (.adcImm 0x01) ∧
  decodeTableWord 8 0b00001010 = some .aslAcc ∧
  decodeTableWord 24 0b00010000_00000000_01001100 = some (.jmpAbs 0x00 0x10) ∧
  decodeTableWord 16 0b11111110_00010000 = some (.bplRel 0xFE) ∧
  decodeTableWord 8 0b00001000 = some .phpImp ∧
  decodeTableWord 24 0b00010010_00110100_11111111 = some (.xIscAbx 0x34 0x12) ∧
  decodeTableWord 8 0b00000010 = some .xKilImp02

/-- Decoding the bytes of any instruction, with anything after them, gives it back (R60, R61, R64, 30_encoding.md). -/
def Obligations.DecodeInvertsEncode : Prop :=
  ∀ (i : Instr) (rest : List Byte), decode (encode i ++ rest) = .ok (i, rest)

/-- Bytes that decode are the bytes of the instruction they decode to (R60, R61, 30_encoding.md). -/
def Obligations.EncodeInvertsDecode : Prop :=
  ∀ (bytes : List Byte) (i : Instr) (rest : List Byte), decode bytes = .ok (i, rest) → bytes = encode i ++ rest

/-- Every opcode byte decodes, and alone fixes the instruction's length of 1 to 3 bytes (R64). -/
def Obligations.OpcodeByteFixesTheLength : Prop :=
  (∀ (b0 b1 b2 : Byte) (rest : List Byte),
    ∃ i left, decode (b0 :: b1 :: b2 :: rest) = .ok (i, left) ∧
      (encode i).head? = some b0 ∧
      (encode i).length = 1 + (lookup defaultRom b0).mode.operandBytes ∧
      1 ≤ (encode i).length ∧ (encode i).length ≤ 3) ∧
  (∀ s t : State, s.Decoding → s.hostMoves = [] → step s = .next t →
    t.cursor = s.cursor + (1 + (lookup s.params.rom (Memory.read s.buf s.cursor)).mode.operandBytes) ∧
    s.cursor + 1 ≤ t.cursor ∧ t.cursor ≤ s.cursor + 3)

/-- hex2 and hex4 are exactly two and four upper-case digits of the value (R130). -/
def Obligations.HexDigitsAreUpperCaseAndPadded : Prop :=
  let digit := fun k => "0123456789ABCDEF".toList.getD k '?'
  (∀ v : Byte, ∃ h l, h < 16 ∧ l < 16 ∧ v.toNat = 16 * h + l ∧ hex2 v = [digit h, digit l]) ∧
  (∀ v : Addr, ∃ a b c d, a < 16 ∧ b < 16 ∧ c < 16 ∧ d < 16 ∧
    v.toNat = 4096 * a + 256 * b + 16 * c + d ∧ hex4 v = [digit a, digit b, digit c, digit d]) ∧
  hex2 5 = "05".toList ∧ hex2 0xFE = "FE".toList ∧ hex4 0x1000 = "1000".toList ∧ hex4 0x00FF = "00FF".toList

/-- A branch displacement is the two's-complement reading of its operand byte (R143). -/
def Obligations.DisplacementIsTwosComplement : Prop :=
  (∀ b : Byte, sext8 b = ((b &&& 0x7F).toNat : Int) - ((b &&& 0x80).toNat : Int) ∧ sext8 b = b.toInt ∧
    -128 ≤ sext8 b ∧ sext8 b ≤ 127 ∧ b &&& ~~~(0x7F : Byte) = b &&& 0x80) ∧
  sext8 0x00 = 0 ∧ sext8 0x7F = 127 ∧ sext8 0x80 = -128 ∧ sext8 0xFE = -2 ∧ sext8 0xFF = -1

/-- A branch target is the next instruction's address plus the displacement, modulo 65536 (R144). -/
def Obligations.BranchTargetIsReducedModulo65536 : Prop :=
  (∀ (c : Nat) (disp : Int) (load : Addr),
    ((relTarget c disp load).toNat : Int) = ((c : Int) + 2 + disp + (load.toNat : Int)) % 65536) ∧
  (∀ (c : Nat) (load : Addr), relTarget c (-2) load = recordAddress c load) ∧
  relTarget 0 (sext8 0xFE) 0 = 0 ∧ relTarget 0 (sext8 0x80) 0 = 0xFF82 ∧ relTarget 0x0D (sext8 0x7F) 0xFFF0 = 0x007E

/-- The first operand byte is the low byte of a two-byte operand (R45, R63). -/
def Obligations.TwoByteOperandsAreLittleEndian : Prop :=
  (∀ b1 b2 : Byte, (word16 b1 b2).toNat = b1.toNat + 256 * b2.toNat ∧ word16 b1 b2 = b2 ++ b1) ∧
  (∀ s : State, s.Decoding → (lookup s.params.rom 0x4C).mode = .absolute →
    ∃ i r t, decode [0x4C, 0x00, 0x10] = .ok (i, []) ∧ exec i s = .next t ∧ t.out = s.out ++ [r] ∧
      r.operandValue = some (.addr 0x1000))

/-- Every instruction, where the block decodes, emits one record of its bytes and advances by its length (R116, R117,
R118, R125). -/
def Obligations.EveryInstructionEmitsOneRecord : Prop :=
  ∀ (i : Instr) (s : State), s.Decoding →
    (encode i).length = 1 + (lookup s.params.rom ((encode i).headD 0)).mode.operandBytes →
    ∃ r : Record,
      exec i s = .next { s with cursor := s.cursor + (encode i).length, out := s.out ++ [r] } ∧
      r.address.toNat = (s.cursor + s.load.toNat) % 65536 ∧
      r.rawBytes = encode i ∧
      r.rawBytes.head? = some r.opcodeByte ∧
      r.length = (encode i).length ∧
      r.lineText = if r.operandText = [] then r.mnemonic else r.mnemonic ++ [' '] ++ r.operandText

/-- A record's mode, illegal flag and length are its ROM entry's, and only a branch has displacement and target (bytes
past the instruction's own: entry 20) (R115, R146, R25). -/
def Obligations.RecordRepeatsTheRomEntry : Prop :=
  (∀ (i : Instr) (s t : State), exec i s = .next t →
    ∃ r : Record, t = { s with cursor := s.cursor + r.length, out := s.out ++ [r] } ∧
      r.opcodeByte = (encode i).headD 0 ∧
      r.mode = (lookup s.params.rom r.opcodeByte).mode ∧
      r.illegal = (lookup s.params.rom r.opcodeByte).illegal ∧
      r.rawBytes = (encode i ++ bytesAt s.buf (s.cursor + (encode i).length) 2).take r.length ∧
      r.length = 1 + r.mode.operandBytes ∧
      (r.displacement.isSome = true ↔ r.mode = .relative) ∧
      (r.target.isSome = true ↔ r.mode = .relative) ∧
      (r.operandValue = none ↔ r.mode = .accumulator ∨ r.mode = .implied) ∧
      (r.operandValue = none → r.operandText = [])) ∧
  (∀ (i : Instr) (s : State), s.Decoding → s.cursor + 3 ≤ s.params.bufSize → ∃ t, exec i s = .next t)

/-- An instruction's meaning stops by name outside a request's data, and without its operand bytes (the model's,
entries 10, 15, 20) (R40, R114, R124, R331). -/
def Obligations.InstructionsRunOnlyWhereTheBlockDecodes : Prop :=
  (∀ (i : Instr) (s : State), ¬s.Decoding →
    (s.phase = .idle → exec i s = .fault (.unwrittenRegister .cursor)) ∧
    (s.phase ≠ .idle → exec i s = .fault .noDecodeStep)) ∧
  (∀ (i : Instr) (s : State), s.Decoding →
    let length := 1 + (lookup s.params.rom ((encode i).headD 0)).mode.operandBytes
    (length ≤ (encode i).length ∨ s.cursor + length ≤ s.params.bufSize → ∃ t, exec i s = .next t) ∧
    ((encode i).length < length → s.params.bufSize < s.cursor + length →
      exec i s = .fault (.readOutsideBuf (max (s.cursor + (encode i).length) s.params.bufSize))))

/-- LDA, LDX, LDY decode to the records of R200 to R202 (R200, R201, R202). -/
def Obligations.LoadsDecodeToTheirRecords : Prop :=
  ∀ o lo hi : Byte,
    HasExactlyTheOpcodes "LDA" [0xA1, 0xA5, 0xA9, 0xAD, 0xB1, 0xB5, 0xB9, 0xBD] ∧
    RecordsAs (.ldaIzx o) "LDA" .indexedIndirect false [0xA1, o] ("($".toList ++ hex2 o ++ ",X)".toList) (some (.byte o)) ∧
    RecordsAs (.ldaZp o) "LDA" .zeroPage false [0xA5, o] ("$".toList ++ hex2 o) (some (.byte o)) ∧
    RecordsAs (.ldaImm o) "LDA" .immediate false [0xA9, o] ("#$".toList ++ hex2 o) (some (.byte o)) ∧
    RecordsAs (.ldaAbs lo hi) "LDA" .absolute false [0xAD, lo, hi] ("$".toList ++ hex4 (word16 lo hi)) (some (.addr (word16 lo hi))) ∧
    RecordsAs (.ldaIzy o) "LDA" .indirectIndexed false [0xB1, o] ("($".toList ++ hex2 o ++ "),Y".toList) (some (.byte o)) ∧
    RecordsAs (.ldaZpx o) "LDA" .zeroPageX false [0xB5, o] ("$".toList ++ hex2 o ++ ",X".toList) (some (.byte o)) ∧
    RecordsAs (.ldaAby lo hi) "LDA" .absoluteY false [0xB9, lo, hi] ("$".toList ++ hex4 (word16 lo hi) ++ ",Y".toList) (some (.addr (word16 lo hi))) ∧
    RecordsAs (.ldaAbx lo hi) "LDA" .absoluteX false [0xBD, lo, hi] ("$".toList ++ hex4 (word16 lo hi) ++ ",X".toList) (some (.addr (word16 lo hi))) ∧
    HasExactlyTheOpcodes "LDX" [0xA2, 0xA6, 0xAE, 0xB6, 0xBE] ∧
    RecordsAs (.ldxImm o) "LDX" .immediate false [0xA2, o] ("#$".toList ++ hex2 o) (some (.byte o)) ∧
    RecordsAs (.ldxZp o) "LDX" .zeroPage false [0xA6, o] ("$".toList ++ hex2 o) (some (.byte o)) ∧
    RecordsAs (.ldxAbs lo hi) "LDX" .absolute false [0xAE, lo, hi] ("$".toList ++ hex4 (word16 lo hi)) (some (.addr (word16 lo hi))) ∧
    RecordsAs (.ldxZpy o) "LDX" .zeroPageY false [0xB6, o] ("$".toList ++ hex2 o ++ ",Y".toList) (some (.byte o)) ∧
    RecordsAs (.ldxAby lo hi) "LDX" .absoluteY false [0xBE, lo, hi] ("$".toList ++ hex4 (word16 lo hi) ++ ",Y".toList) (some (.addr (word16 lo hi))) ∧
    HasExactlyTheOpcodes "LDY" [0xA0, 0xA4, 0xAC, 0xB4, 0xBC] ∧
    RecordsAs (.ldyImm o) "LDY" .immediate false [0xA0, o] ("#$".toList ++ hex2 o) (some (.byte o)) ∧
    RecordsAs (.ldyZp o) "LDY" .zeroPage false [0xA4, o] ("$".toList ++ hex2 o) (some (.byte o)) ∧
    RecordsAs (.ldyAbs lo hi) "LDY" .absolute false [0xAC, lo, hi] ("$".toList ++ hex4 (word16 lo hi)) (some (.addr (word16 lo hi))) ∧
    RecordsAs (.ldyZpx o) "LDY" .zeroPageX false [0xB4, o] ("$".toList ++ hex2 o ++ ",X".toList) (some (.byte o)) ∧
    RecordsAs (.ldyAbx lo hi) "LDY" .absoluteX false [0xBC, lo, hi] ("$".toList ++ hex4 (word16 lo hi) ++ ",X".toList) (some (.addr (word16 lo hi)))

/-- STA, STX, STY decode to the records of R203 to R205 (R203, R204, R205). -/
def Obligations.StoresDecodeToTheirRecords : Prop :=
  ∀ o lo hi : Byte,
    HasExactlyTheOpcodes "STA" [0x81, 0x85, 0x8D, 0x91, 0x95, 0x99, 0x9D] ∧
    RecordsAs (.staIzx o) "STA" .indexedIndirect false [0x81, o] ("($".toList ++ hex2 o ++ ",X)".toList) (some (.byte o)) ∧
    RecordsAs (.staZp o) "STA" .zeroPage false [0x85, o] ("$".toList ++ hex2 o) (some (.byte o)) ∧
    RecordsAs (.staAbs lo hi) "STA" .absolute false [0x8D, lo, hi] ("$".toList ++ hex4 (word16 lo hi)) (some (.addr (word16 lo hi))) ∧
    RecordsAs (.staIzy o) "STA" .indirectIndexed false [0x91, o] ("($".toList ++ hex2 o ++ "),Y".toList) (some (.byte o)) ∧
    RecordsAs (.staZpx o) "STA" .zeroPageX false [0x95, o] ("$".toList ++ hex2 o ++ ",X".toList) (some (.byte o)) ∧
    RecordsAs (.staAby lo hi) "STA" .absoluteY false [0x99, lo, hi] ("$".toList ++ hex4 (word16 lo hi) ++ ",Y".toList) (some (.addr (word16 lo hi))) ∧
    RecordsAs (.staAbx lo hi) "STA" .absoluteX false [0x9D, lo, hi] ("$".toList ++ hex4 (word16 lo hi) ++ ",X".toList) (some (.addr (word16 lo hi))) ∧
    HasExactlyTheOpcodes "STX" [0x86, 0x8E, 0x96] ∧
    RecordsAs (.stxZp o) "STX" .zeroPage false [0x86, o] ("$".toList ++ hex2 o) (some (.byte o)) ∧
    RecordsAs (.stxAbs lo hi) "STX" .absolute false [0x8E, lo, hi] ("$".toList ++ hex4 (word16 lo hi)) (some (.addr (word16 lo hi))) ∧
    RecordsAs (.stxZpy o) "STX" .zeroPageY false [0x96, o] ("$".toList ++ hex2 o ++ ",Y".toList) (some (.byte o)) ∧
    HasExactlyTheOpcodes "STY" [0x84, 0x8C, 0x94] ∧
    RecordsAs (.styZp o) "STY" .zeroPage false [0x84, o] ("$".toList ++ hex2 o) (some (.byte o)) ∧
    RecordsAs (.styAbs lo hi) "STY" .absolute false [0x8C, lo, hi] ("$".toList ++ hex4 (word16 lo hi)) (some (.addr (word16 lo hi))) ∧
    RecordsAs (.styZpx o) "STY" .zeroPageX false [0x94, o] ("$".toList ++ hex2 o ++ ",X".toList) (some (.byte o))

/-- TAX, TAY, TXA, TYA, TSX, TXS decode to the records of R206 to R211 (R206, R207, R208, R209, R210, R211). -/
def Obligations.TransfersDecodeToTheirRecords : Prop :=
  HasExactlyTheOpcodes "TAX" [0xAA] ∧
  RecordsAs .taxImp "TAX" .implied false [0xAA] [] none ∧
  HasExactlyTheOpcodes "TAY" [0xA8] ∧
  RecordsAs .tayImp "TAY" .implied false [0xA8] [] none ∧
  HasExactlyTheOpcodes "TXA" [0x8A] ∧
  RecordsAs .txaImp "TXA" .implied false [0x8A] [] none ∧
  HasExactlyTheOpcodes "TYA" [0x98] ∧
  RecordsAs .tyaImp "TYA" .implied false [0x98] [] none ∧
  HasExactlyTheOpcodes "TSX" [0xBA] ∧
  RecordsAs .tsxImp "TSX" .implied false [0xBA] [] none ∧
  HasExactlyTheOpcodes "TXS" [0x9A] ∧
  RecordsAs .txsImp "TXS" .implied false [0x9A] [] none

/-- ADC, SBC decode to the records of R212, R213 (R212, R213). -/
def Obligations.AddAndSubtractDecodeToTheirRecords : Prop :=
  ∀ o lo hi : Byte,
    HasExactlyTheOpcodes "ADC" [0x61, 0x65, 0x69, 0x6D, 0x71, 0x75, 0x79, 0x7D] ∧
    RecordsAs (.adcIzx o) "ADC" .indexedIndirect false [0x61, o] ("($".toList ++ hex2 o ++ ",X)".toList) (some (.byte o)) ∧
    RecordsAs (.adcZp o) "ADC" .zeroPage false [0x65, o] ("$".toList ++ hex2 o) (some (.byte o)) ∧
    RecordsAs (.adcImm o) "ADC" .immediate false [0x69, o] ("#$".toList ++ hex2 o) (some (.byte o)) ∧
    RecordsAs (.adcAbs lo hi) "ADC" .absolute false [0x6D, lo, hi] ("$".toList ++ hex4 (word16 lo hi)) (some (.addr (word16 lo hi))) ∧
    RecordsAs (.adcIzy o) "ADC" .indirectIndexed false [0x71, o] ("($".toList ++ hex2 o ++ "),Y".toList) (some (.byte o)) ∧
    RecordsAs (.adcZpx o) "ADC" .zeroPageX false [0x75, o] ("$".toList ++ hex2 o ++ ",X".toList) (some (.byte o)) ∧
    RecordsAs (.adcAby lo hi) "ADC" .absoluteY false [0x79, lo, hi] ("$".toList ++ hex4 (word16 lo hi) ++ ",Y".toList) (some (.addr (word16 lo hi))) ∧
    RecordsAs (.adcAbx lo hi) "ADC" .absoluteX false [0x7D, lo, hi] ("$".toList ++ hex4 (word16 lo hi) ++ ",X".toList) (some (.addr (word16 lo hi))) ∧
    HasExactlyTheOpcodes "SBC" [0xE1, 0xE5, 0xE9, 0xED, 0xF1, 0xF5, 0xF9, 0xFD] ∧
    RecordsAs (.sbcIzx o) "SBC" .indexedIndirect false [0xE1, o] ("($".toList ++ hex2 o ++ ",X)".toList) (some (.byte o)) ∧
    RecordsAs (.sbcZp o) "SBC" .zeroPage false [0xE5, o] ("$".toList ++ hex2 o) (some (.byte o)) ∧
    RecordsAs (.sbcImm o) "SBC" .immediate false [0xE9, o] ("#$".toList ++ hex2 o) (some (.byte o)) ∧
    RecordsAs (.sbcAbs lo hi) "SBC" .absolute false [0xED, lo, hi] ("$".toList ++ hex4 (word16 lo hi)) (some (.addr (word16 lo hi))) ∧
    RecordsAs (.sbcIzy o) "SBC" .indirectIndexed false [0xF1, o] ("($".toList ++ hex2 o ++ "),Y".toList) (some (.byte o)) ∧
    RecordsAs (.sbcZpx o) "SBC" .zeroPageX false [0xF5, o] ("$".toList ++ hex2 o ++ ",X".toList) (some (.byte o)) ∧
    RecordsAs (.sbcAby lo hi) "SBC" .absoluteY false [0xF9, lo, hi] ("$".toList ++ hex4 (word16 lo hi) ++ ",Y".toList) (some (.addr (word16 lo hi))) ∧
    RecordsAs (.sbcAbx lo hi) "SBC" .absoluteX false [0xFD, lo, hi] ("$".toList ++ hex4 (word16 lo hi) ++ ",X".toList) (some (.addr (word16 lo hi)))

/-- AND, ORA, EOR decode to the records of R214 to R216 (R214, R215, R216). -/
def Obligations.LogicDecodesToItsRecords : Prop :=
  ∀ o lo hi : Byte,
    HasExactlyTheOpcodes "AND" [0x21, 0x25, 0x29, 0x2D, 0x31, 0x35, 0x39, 0x3D] ∧
    RecordsAs (.andIzx o) "AND" .indexedIndirect false [0x21, o] ("($".toList ++ hex2 o ++ ",X)".toList) (some (.byte o)) ∧
    RecordsAs (.andZp o) "AND" .zeroPage false [0x25, o] ("$".toList ++ hex2 o) (some (.byte o)) ∧
    RecordsAs (.andImm o) "AND" .immediate false [0x29, o] ("#$".toList ++ hex2 o) (some (.byte o)) ∧
    RecordsAs (.andAbs lo hi) "AND" .absolute false [0x2D, lo, hi] ("$".toList ++ hex4 (word16 lo hi)) (some (.addr (word16 lo hi))) ∧
    RecordsAs (.andIzy o) "AND" .indirectIndexed false [0x31, o] ("($".toList ++ hex2 o ++ "),Y".toList) (some (.byte o)) ∧
    RecordsAs (.andZpx o) "AND" .zeroPageX false [0x35, o] ("$".toList ++ hex2 o ++ ",X".toList) (some (.byte o)) ∧
    RecordsAs (.andAby lo hi) "AND" .absoluteY false [0x39, lo, hi] ("$".toList ++ hex4 (word16 lo hi) ++ ",Y".toList) (some (.addr (word16 lo hi))) ∧
    RecordsAs (.andAbx lo hi) "AND" .absoluteX false [0x3D, lo, hi] ("$".toList ++ hex4 (word16 lo hi) ++ ",X".toList) (some (.addr (word16 lo hi))) ∧
    HasExactlyTheOpcodes "ORA" [0x01, 0x05, 0x09, 0x0D, 0x11, 0x15, 0x19, 0x1D] ∧
    RecordsAs (.oraIzx o) "ORA" .indexedIndirect false [0x01, o] ("($".toList ++ hex2 o ++ ",X)".toList) (some (.byte o)) ∧
    RecordsAs (.oraZp o) "ORA" .zeroPage false [0x05, o] ("$".toList ++ hex2 o) (some (.byte o)) ∧
    RecordsAs (.oraImm o) "ORA" .immediate false [0x09, o] ("#$".toList ++ hex2 o) (some (.byte o)) ∧
    RecordsAs (.oraAbs lo hi) "ORA" .absolute false [0x0D, lo, hi] ("$".toList ++ hex4 (word16 lo hi)) (some (.addr (word16 lo hi))) ∧
    RecordsAs (.oraIzy o) "ORA" .indirectIndexed false [0x11, o] ("($".toList ++ hex2 o ++ "),Y".toList) (some (.byte o)) ∧
    RecordsAs (.oraZpx o) "ORA" .zeroPageX false [0x15, o] ("$".toList ++ hex2 o ++ ",X".toList) (some (.byte o)) ∧
    RecordsAs (.oraAby lo hi) "ORA" .absoluteY false [0x19, lo, hi] ("$".toList ++ hex4 (word16 lo hi) ++ ",Y".toList) (some (.addr (word16 lo hi))) ∧
    RecordsAs (.oraAbx lo hi) "ORA" .absoluteX false [0x1D, lo, hi] ("$".toList ++ hex4 (word16 lo hi) ++ ",X".toList) (some (.addr (word16 lo hi))) ∧
    HasExactlyTheOpcodes "EOR" [0x41, 0x45, 0x49, 0x4D, 0x51, 0x55, 0x59, 0x5D] ∧
    RecordsAs (.eorIzx o) "EOR" .indexedIndirect false [0x41, o] ("($".toList ++ hex2 o ++ ",X)".toList) (some (.byte o)) ∧
    RecordsAs (.eorZp o) "EOR" .zeroPage false [0x45, o] ("$".toList ++ hex2 o) (some (.byte o)) ∧
    RecordsAs (.eorImm o) "EOR" .immediate false [0x49, o] ("#$".toList ++ hex2 o) (some (.byte o)) ∧
    RecordsAs (.eorAbs lo hi) "EOR" .absolute false [0x4D, lo, hi] ("$".toList ++ hex4 (word16 lo hi)) (some (.addr (word16 lo hi))) ∧
    RecordsAs (.eorIzy o) "EOR" .indirectIndexed false [0x51, o] ("($".toList ++ hex2 o ++ "),Y".toList) (some (.byte o)) ∧
    RecordsAs (.eorZpx o) "EOR" .zeroPageX false [0x55, o] ("$".toList ++ hex2 o ++ ",X".toList) (some (.byte o)) ∧
    RecordsAs (.eorAby lo hi) "EOR" .absoluteY false [0x59, lo, hi] ("$".toList ++ hex4 (word16 lo hi) ++ ",Y".toList) (some (.addr (word16 lo hi))) ∧
    RecordsAs (.eorAbx lo hi) "EOR" .absoluteX false [0x5D, lo, hi] ("$".toList ++ hex4 (word16 lo hi) ++ ",X".toList) (some (.addr (word16 lo hi)))

/-- CMP, CPX, CPY, BIT decode to the records of R217 to R220 (R217, R218, R219, R220). -/
def Obligations.ComparesDecodeToTheirRecords : Prop :=
  ∀ o lo hi : Byte,
    HasExactlyTheOpcodes "CMP" [0xC1, 0xC5, 0xC9, 0xCD, 0xD1, 0xD5, 0xD9, 0xDD] ∧
    RecordsAs (.cmpIzx o) "CMP" .indexedIndirect false [0xC1, o] ("($".toList ++ hex2 o ++ ",X)".toList) (some (.byte o)) ∧
    RecordsAs (.cmpZp o) "CMP" .zeroPage false [0xC5, o] ("$".toList ++ hex2 o) (some (.byte o)) ∧
    RecordsAs (.cmpImm o) "CMP" .immediate false [0xC9, o] ("#$".toList ++ hex2 o) (some (.byte o)) ∧
    RecordsAs (.cmpAbs lo hi) "CMP" .absolute false [0xCD, lo, hi] ("$".toList ++ hex4 (word16 lo hi)) (some (.addr (word16 lo hi))) ∧
    RecordsAs (.cmpIzy o) "CMP" .indirectIndexed false [0xD1, o] ("($".toList ++ hex2 o ++ "),Y".toList) (some (.byte o)) ∧
    RecordsAs (.cmpZpx o) "CMP" .zeroPageX false [0xD5, o] ("$".toList ++ hex2 o ++ ",X".toList) (some (.byte o)) ∧
    RecordsAs (.cmpAby lo hi) "CMP" .absoluteY false [0xD9, lo, hi] ("$".toList ++ hex4 (word16 lo hi) ++ ",Y".toList) (some (.addr (word16 lo hi))) ∧
    RecordsAs (.cmpAbx lo hi) "CMP" .absoluteX false [0xDD, lo, hi] ("$".toList ++ hex4 (word16 lo hi) ++ ",X".toList) (some (.addr (word16 lo hi))) ∧
    HasExactlyTheOpcodes "CPX" [0xE0, 0xE4, 0xEC] ∧
    RecordsAs (.cpxImm o) "CPX" .immediate false [0xE0, o] ("#$".toList ++ hex2 o) (some (.byte o)) ∧
    RecordsAs (.cpxZp o) "CPX" .zeroPage false [0xE4, o] ("$".toList ++ hex2 o) (some (.byte o)) ∧
    RecordsAs (.cpxAbs lo hi) "CPX" .absolute false [0xEC, lo, hi] ("$".toList ++ hex4 (word16 lo hi)) (some (.addr (word16 lo hi))) ∧
    HasExactlyTheOpcodes "CPY" [0xC0, 0xC4, 0xCC] ∧
    RecordsAs (.cpyImm o) "CPY" .immediate false [0xC0, o] ("#$".toList ++ hex2 o) (some (.byte o)) ∧
    RecordsAs (.cpyZp o) "CPY" .zeroPage false [0xC4, o] ("$".toList ++ hex2 o) (some (.byte o)) ∧
    RecordsAs (.cpyAbs lo hi) "CPY" .absolute false [0xCC, lo, hi] ("$".toList ++ hex4 (word16 lo hi)) (some (.addr (word16 lo hi))) ∧
    HasExactlyTheOpcodes "BIT" [0x24, 0x2C] ∧
    RecordsAs (.bitZp o) "BIT" .zeroPage false [0x24, o] ("$".toList ++ hex2 o) (some (.byte o)) ∧
    RecordsAs (.bitAbs lo hi) "BIT" .absolute false [0x2C, lo, hi] ("$".toList ++ hex4 (word16 lo hi)) (some (.addr (word16 lo hi)))

/-- ASL, LSR, ROL, ROR decode to the records of R221 to R224 (R221, R222, R223, R224). -/
def Obligations.ShiftsDecodeToTheirRecords : Prop :=
  ∀ o lo hi : Byte,
    HasExactlyTheOpcodes "ASL" [0x06, 0x0A, 0x0E, 0x16, 0x1E] ∧
    RecordsAs (.aslZp o) "ASL" .zeroPage false [0x06, o] ("$".toList ++ hex2 o) (some (.byte o)) ∧
    RecordsAs .aslAcc "ASL" .accumulator false [0x0A] [] none ∧
    RecordsAs (.aslAbs lo hi) "ASL" .absolute false [0x0E, lo, hi] ("$".toList ++ hex4 (word16 lo hi)) (some (.addr (word16 lo hi))) ∧
    RecordsAs (.aslZpx o) "ASL" .zeroPageX false [0x16, o] ("$".toList ++ hex2 o ++ ",X".toList) (some (.byte o)) ∧
    RecordsAs (.aslAbx lo hi) "ASL" .absoluteX false [0x1E, lo, hi] ("$".toList ++ hex4 (word16 lo hi) ++ ",X".toList) (some (.addr (word16 lo hi))) ∧
    HasExactlyTheOpcodes "LSR" [0x46, 0x4A, 0x4E, 0x56, 0x5E] ∧
    RecordsAs (.lsrZp o) "LSR" .zeroPage false [0x46, o] ("$".toList ++ hex2 o) (some (.byte o)) ∧
    RecordsAs .lsrAcc "LSR" .accumulator false [0x4A] [] none ∧
    RecordsAs (.lsrAbs lo hi) "LSR" .absolute false [0x4E, lo, hi] ("$".toList ++ hex4 (word16 lo hi)) (some (.addr (word16 lo hi))) ∧
    RecordsAs (.lsrZpx o) "LSR" .zeroPageX false [0x56, o] ("$".toList ++ hex2 o ++ ",X".toList) (some (.byte o)) ∧
    RecordsAs (.lsrAbx lo hi) "LSR" .absoluteX false [0x5E, lo, hi] ("$".toList ++ hex4 (word16 lo hi) ++ ",X".toList) (some (.addr (word16 lo hi))) ∧
    HasExactlyTheOpcodes "ROL" [0x26, 0x2A, 0x2E, 0x36, 0x3E] ∧
    RecordsAs (.rolZp o) "ROL" .zeroPage false [0x26, o] ("$".toList ++ hex2 o) (some (.byte o)) ∧
    RecordsAs .rolAcc "ROL" .accumulator false [0x2A] [] none ∧
    RecordsAs (.rolAbs lo hi) "ROL" .absolute false [0x2E, lo, hi] ("$".toList ++ hex4 (word16 lo hi)) (some (.addr (word16 lo hi))) ∧
    RecordsAs (.rolZpx o) "ROL" .zeroPageX false [0x36, o] ("$".toList ++ hex2 o ++ ",X".toList) (some (.byte o)) ∧
    RecordsAs (.rolAbx lo hi) "ROL" .absoluteX false [0x3E, lo, hi] ("$".toList ++ hex4 (word16 lo hi) ++ ",X".toList) (some (.addr (word16 lo hi))) ∧
    HasExactlyTheOpcodes "ROR" [0x66, 0x6A, 0x6E, 0x76, 0x7E] ∧
    RecordsAs (.rorZp o) "ROR" .zeroPage false [0x66, o] ("$".toList ++ hex2 o) (some (.byte o)) ∧
    RecordsAs .rorAcc "ROR" .accumulator false [0x6A] [] none ∧
    RecordsAs (.rorAbs lo hi) "ROR" .absolute false [0x6E, lo, hi] ("$".toList ++ hex4 (word16 lo hi)) (some (.addr (word16 lo hi))) ∧
    RecordsAs (.rorZpx o) "ROR" .zeroPageX false [0x76, o] ("$".toList ++ hex2 o ++ ",X".toList) (some (.byte o)) ∧
    RecordsAs (.rorAbx lo hi) "ROR" .absoluteX false [0x7E, lo, hi] ("$".toList ++ hex4 (word16 lo hi) ++ ",X".toList) (some (.addr (word16 lo hi)))

/-- INC, DEC, INX, INY, DEX, DEY decode to the records of R225 to R230 (R225, R226, R227, R228, R229, R230). -/
def Obligations.IncrementsDecodeToTheirRecords : Prop :=
  ∀ o lo hi : Byte,
    HasExactlyTheOpcodes "INC" [0xE6, 0xEE, 0xF6, 0xFE] ∧
    RecordsAs (.incZp o) "INC" .zeroPage false [0xE6, o] ("$".toList ++ hex2 o) (some (.byte o)) ∧
    RecordsAs (.incAbs lo hi) "INC" .absolute false [0xEE, lo, hi] ("$".toList ++ hex4 (word16 lo hi)) (some (.addr (word16 lo hi))) ∧
    RecordsAs (.incZpx o) "INC" .zeroPageX false [0xF6, o] ("$".toList ++ hex2 o ++ ",X".toList) (some (.byte o)) ∧
    RecordsAs (.incAbx lo hi) "INC" .absoluteX false [0xFE, lo, hi] ("$".toList ++ hex4 (word16 lo hi) ++ ",X".toList) (some (.addr (word16 lo hi))) ∧
    HasExactlyTheOpcodes "DEC" [0xC6, 0xCE, 0xD6, 0xDE] ∧
    RecordsAs (.decZp o) "DEC" .zeroPage false [0xC6, o] ("$".toList ++ hex2 o) (some (.byte o)) ∧
    RecordsAs (.decAbs lo hi) "DEC" .absolute false [0xCE, lo, hi] ("$".toList ++ hex4 (word16 lo hi)) (some (.addr (word16 lo hi))) ∧
    RecordsAs (.decZpx o) "DEC" .zeroPageX false [0xD6, o] ("$".toList ++ hex2 o ++ ",X".toList) (some (.byte o)) ∧
    RecordsAs (.decAbx lo hi) "DEC" .absoluteX false [0xDE, lo, hi] ("$".toList ++ hex4 (word16 lo hi) ++ ",X".toList) (some (.addr (word16 lo hi))) ∧
    HasExactlyTheOpcodes "INX" [0xE8] ∧
    RecordsAs .inxImp "INX" .implied false [0xE8] [] none ∧
    HasExactlyTheOpcodes "INY" [0xC8] ∧
    RecordsAs .inyImp "INY" .implied false [0xC8] [] none ∧
    HasExactlyTheOpcodes "DEX" [0xCA] ∧
    RecordsAs .dexImp "DEX" .implied false [0xCA] [] none ∧
    HasExactlyTheOpcodes "DEY" [0x88] ∧
    RecordsAs .deyImp "DEY" .implied false [0x88] [] none

/-- JMP, JSR, RTS, RTI, BRK decode to the records of R231 to R235 (R231, R232, R233, R234, R235). -/
def Obligations.JumpsDecodeToTheirRecords : Prop :=
  ∀ lo hi : Byte,
    HasExactlyTheOpcodes "JMP" [0x4C, 0x6C] ∧
    RecordsAs (.jmpAbs lo hi) "JMP" .absolute false [0x4C, lo, hi] ("$".toList ++ hex4 (word16 lo hi)) (some (.addr (word16 lo hi))) ∧
    RecordsAs (.jmpInd lo hi) "JMP" .indirect false [0x6C, lo, hi] ("($".toList ++ hex4 (word16 lo hi) ++ ")".toList) (some (.addr (word16 lo hi))) ∧
    HasExactlyTheOpcodes "JSR" [0x20] ∧
    RecordsAs (.jsrAbs lo hi) "JSR" .absolute false [0x20, lo, hi] ("$".toList ++ hex4 (word16 lo hi)) (some (.addr (word16 lo hi))) ∧
    HasExactlyTheOpcodes "RTS" [0x60] ∧
    RecordsAs .rtsImp "RTS" .implied false [0x60] [] none ∧
    HasExactlyTheOpcodes "RTI" [0x40] ∧
    RecordsAs .rtiImp "RTI" .implied false [0x40] [] none ∧
    HasExactlyTheOpcodes "BRK" [0x00] ∧
    RecordsAs .brkImp "BRK" .implied false [0x00] [] none

/-- BPL, BMI, BVC, BVS, BCC, BCS, BNE, BEQ decode to the records of R236 to R243 (R236, R237, R238, R239, R240, R241,
R242, R243). -/
def Obligations.BranchesDecodeToTheirRecords : Prop :=
  ∀ o : Byte,
    HasExactlyTheOpcodes "BPL" [0x10] ∧
    BranchesAs (.bplRel o) "BPL" 0x10 o ∧
    HasExactlyTheOpcodes "BMI" [0x30] ∧
    BranchesAs (.bmiRel o) "BMI" 0x30 o ∧
    HasExactlyTheOpcodes "BVC" [0x50] ∧
    BranchesAs (.bvcRel o) "BVC" 0x50 o ∧
    HasExactlyTheOpcodes "BVS" [0x70] ∧
    BranchesAs (.bvsRel o) "BVS" 0x70 o ∧
    HasExactlyTheOpcodes "BCC" [0x90] ∧
    BranchesAs (.bccRel o) "BCC" 0x90 o ∧
    HasExactlyTheOpcodes "BCS" [0xB0] ∧
    BranchesAs (.bcsRel o) "BCS" 0xB0 o ∧
    HasExactlyTheOpcodes "BNE" [0xD0] ∧
    BranchesAs (.bneRel o) "BNE" 0xD0 o ∧
    HasExactlyTheOpcodes "BEQ" [0xF0] ∧
    BranchesAs (.beqRel o) "BEQ" 0xF0 o

/-- CLC, SEC, CLI, SEI, CLD, SED, CLV decode to the records of R244 to R250 (R244, R245, R246, R247, R248, R249,
R250). -/
def Obligations.FlagInstructionsDecodeToTheirRecords : Prop :=
  HasExactlyTheOpcodes "CLC" [0x18] ∧
  RecordsAs .clcImp "CLC" .implied false [0x18] [] none ∧
  HasExactlyTheOpcodes "SEC" [0x38] ∧
  RecordsAs .secImp "SEC" .implied false [0x38] [] none ∧
  HasExactlyTheOpcodes "CLI" [0x58] ∧
  RecordsAs .cliImp "CLI" .implied false [0x58] [] none ∧
  HasExactlyTheOpcodes "SEI" [0x78] ∧
  RecordsAs .seiImp "SEI" .implied false [0x78] [] none ∧
  HasExactlyTheOpcodes "CLD" [0xD8] ∧
  RecordsAs .cldImp "CLD" .implied false [0xD8] [] none ∧
  HasExactlyTheOpcodes "SED" [0xF8] ∧
  RecordsAs .sedImp "SED" .implied false [0xF8] [] none ∧
  HasExactlyTheOpcodes "CLV" [0xB8] ∧
  RecordsAs .clvImp "CLV" .implied false [0xB8] [] none

/-- PHA, PLA, PHP, PLP, NOP decode to the records of R251 to R255 (R251, R252, R253, R254, R255). -/
def Obligations.StackAndNopDecodeToTheirRecords : Prop :=
  HasExactlyTheOpcodes "PHA" [0x48] ∧
  RecordsAs .phaImp "PHA" .implied false [0x48] [] none ∧
  HasExactlyTheOpcodes "PLA" [0x68] ∧
  RecordsAs .plaImp "PLA" .implied false [0x68] [] none ∧
  HasExactlyTheOpcodes "PHP" [0x08] ∧
  RecordsAs .phpImp "PHP" .implied false [0x08] [] none ∧
  HasExactlyTheOpcodes "PLP" [0x28] ∧
  RecordsAs .plpImp "PLP" .implied false [0x28] [] none ∧
  HasExactlyTheOpcodes "NOP" [0xEA] ∧
  RecordsAs .nopImp "NOP" .implied false [0xEA] [] none

/-- slo, rla, sre, rra decode to the records of R260 to R263 (R260, R261, R262, R263). -/
def Obligations.ShiftCombinationsDecodeToTheirRecords : Prop :=
  ∀ o lo hi : Byte,
    HasExactlyTheOpcodes "slo" [0x03, 0x07, 0x0F, 0x13, 0x17, 0x1B, 0x1F] ∧
    RecordsAs (.xSloIzx o) "slo" .indexedIndirect true [0x03, o] ("($".toList ++ hex2 o ++ ",X)".toList) (some (.byte o)) ∧
    RecordsAs (.xSloZp o) "slo" .zeroPage true [0x07, o] ("$".toList ++ hex2 o) (some (.byte o)) ∧
    RecordsAs (.xSloAbs lo hi) "slo" .absolute true [0x0F, lo, hi] ("$".toList ++ hex4 (word16 lo hi)) (some (.addr (word16 lo hi))) ∧
    RecordsAs (.xSloIzy o) "slo" .indirectIndexed true [0x13, o] ("($".toList ++ hex2 o ++ "),Y".toList) (some (.byte o)) ∧
    RecordsAs (.xSloZpx o) "slo" .zeroPageX true [0x17, o] ("$".toList ++ hex2 o ++ ",X".toList) (some (.byte o)) ∧
    RecordsAs (.xSloAby lo hi) "slo" .absoluteY true [0x1B, lo, hi] ("$".toList ++ hex4 (word16 lo hi) ++ ",Y".toList) (some (.addr (word16 lo hi))) ∧
    RecordsAs (.xSloAbx lo hi) "slo" .absoluteX true [0x1F, lo, hi] ("$".toList ++ hex4 (word16 lo hi) ++ ",X".toList) (some (.addr (word16 lo hi))) ∧
    HasExactlyTheOpcodes "rla" [0x23, 0x27, 0x2F, 0x33, 0x37, 0x3B, 0x3F] ∧
    RecordsAs (.xRlaIzx o) "rla" .indexedIndirect true [0x23, o] ("($".toList ++ hex2 o ++ ",X)".toList) (some (.byte o)) ∧
    RecordsAs (.xRlaZp o) "rla" .zeroPage true [0x27, o] ("$".toList ++ hex2 o) (some (.byte o)) ∧
    RecordsAs (.xRlaAbs lo hi) "rla" .absolute true [0x2F, lo, hi] ("$".toList ++ hex4 (word16 lo hi)) (some (.addr (word16 lo hi))) ∧
    RecordsAs (.xRlaIzy o) "rla" .indirectIndexed true [0x33, o] ("($".toList ++ hex2 o ++ "),Y".toList) (some (.byte o)) ∧
    RecordsAs (.xRlaZpx o) "rla" .zeroPageX true [0x37, o] ("$".toList ++ hex2 o ++ ",X".toList) (some (.byte o)) ∧
    RecordsAs (.xRlaAby lo hi) "rla" .absoluteY true [0x3B, lo, hi] ("$".toList ++ hex4 (word16 lo hi) ++ ",Y".toList) (some (.addr (word16 lo hi))) ∧
    RecordsAs (.xRlaAbx lo hi) "rla" .absoluteX true [0x3F, lo, hi] ("$".toList ++ hex4 (word16 lo hi) ++ ",X".toList) (some (.addr (word16 lo hi))) ∧
    HasExactlyTheOpcodes "sre" [0x43, 0x47, 0x4F, 0x53, 0x57, 0x5B, 0x5F] ∧
    RecordsAs (.xSreIzx o) "sre" .indexedIndirect true [0x43, o] ("($".toList ++ hex2 o ++ ",X)".toList) (some (.byte o)) ∧
    RecordsAs (.xSreZp o) "sre" .zeroPage true [0x47, o] ("$".toList ++ hex2 o) (some (.byte o)) ∧
    RecordsAs (.xSreAbs lo hi) "sre" .absolute true [0x4F, lo, hi] ("$".toList ++ hex4 (word16 lo hi)) (some (.addr (word16 lo hi))) ∧
    RecordsAs (.xSreIzy o) "sre" .indirectIndexed true [0x53, o] ("($".toList ++ hex2 o ++ "),Y".toList) (some (.byte o)) ∧
    RecordsAs (.xSreZpx o) "sre" .zeroPageX true [0x57, o] ("$".toList ++ hex2 o ++ ",X".toList) (some (.byte o)) ∧
    RecordsAs (.xSreAby lo hi) "sre" .absoluteY true [0x5B, lo, hi] ("$".toList ++ hex4 (word16 lo hi) ++ ",Y".toList) (some (.addr (word16 lo hi))) ∧
    RecordsAs (.xSreAbx lo hi) "sre" .absoluteX true [0x5F, lo, hi] ("$".toList ++ hex4 (word16 lo hi) ++ ",X".toList) (some (.addr (word16 lo hi))) ∧
    HasExactlyTheOpcodes "rra" [0x63, 0x67, 0x6F, 0x73, 0x77, 0x7B, 0x7F] ∧
    RecordsAs (.xRraIzx o) "rra" .indexedIndirect true [0x63, o] ("($".toList ++ hex2 o ++ ",X)".toList) (some (.byte o)) ∧
    RecordsAs (.xRraZp o) "rra" .zeroPage true [0x67, o] ("$".toList ++ hex2 o) (some (.byte o)) ∧
    RecordsAs (.xRraAbs lo hi) "rra" .absolute true [0x6F, lo, hi] ("$".toList ++ hex4 (word16 lo hi)) (some (.addr (word16 lo hi))) ∧
    RecordsAs (.xRraIzy o) "rra" .indirectIndexed true [0x73, o] ("($".toList ++ hex2 o ++ "),Y".toList) (some (.byte o)) ∧
    RecordsAs (.xRraZpx o) "rra" .zeroPageX true [0x77, o] ("$".toList ++ hex2 o ++ ",X".toList) (some (.byte o)) ∧
    RecordsAs (.xRraAby lo hi) "rra" .absoluteY true [0x7B, lo, hi] ("$".toList ++ hex4 (word16 lo hi) ++ ",Y".toList) (some (.addr (word16 lo hi))) ∧
    RecordsAs (.xRraAbx lo hi) "rra" .absoluteX true [0x7F, lo, hi] ("$".toList ++ hex4 (word16 lo hi) ++ ",X".toList) (some (.addr (word16 lo hi)))

/-- sax, lax, dcp, isc decode to the records of R264 to R267 (R264, R265, R266, R267). -/
def Obligations.StoreAndCompareCombinationsDecodeToTheirRecords : Prop :=
  ∀ o lo hi : Byte,
    HasExactlyTheOpcodes "sax" [0x83, 0x87, 0x8F, 0x97] ∧
    RecordsAs (.xSaxIzx o) "sax" .indexedIndirect true [0x83, o] ("($".toList ++ hex2 o ++ ",X)".toList) (some (.byte o)) ∧
    RecordsAs (.xSaxZp o) "sax" .zeroPage true [0x87, o] ("$".toList ++ hex2 o) (some (.byte o)) ∧
    RecordsAs (.xSaxAbs lo hi) "sax" .absolute true [0x8F, lo, hi] ("$".toList ++ hex4 (word16 lo hi)) (some (.addr (word16 lo hi))) ∧
    RecordsAs (.xSaxZpy o) "sax" .zeroPageY true [0x97, o] ("$".toList ++ hex2 o ++ ",Y".toList) (some (.byte o)) ∧
    HasExactlyTheOpcodes "lax" [0xA3, 0xA7, 0xAB, 0xAF, 0xB3, 0xB7, 0xBF] ∧
    RecordsAs (.xLaxIzx o) "lax" .indexedIndirect true [0xA3, o] ("($".toList ++ hex2 o ++ ",X)".toList) (some (.byte o)) ∧
    RecordsAs (.xLaxZp o) "lax" .zeroPage true [0xA7, o] ("$".toList ++ hex2 o) (some (.byte o)) ∧
    RecordsAs (.xLaxImm o) "lax" .immediate true [0xAB, o] ("#$".toList ++ hex2 o) (some (.byte o)) ∧
    RecordsAs (.xLaxAbs lo hi) "lax" .absolute true [0xAF, lo, hi] ("$".toList ++ hex4 (word16 lo hi)) (some (.addr (word16 lo hi))) ∧
    RecordsAs (.xLaxIzy o) "lax" .indirectIndexed true [0xB3, o] ("($".toList ++ hex2 o ++ "),Y".toList) (some (.byte o)) ∧
    RecordsAs (.xLaxZpy o) "lax" .zeroPageY true [0xB7, o] ("$".toList ++ hex2 o ++ ",Y".toList) (some (.byte o)) ∧
    RecordsAs (.xLaxAby lo hi) "lax" .absoluteY true [0xBF, lo, hi] ("$".toList ++ hex4 (word16 lo hi) ++ ",Y".toList) (some (.addr (word16 lo hi))) ∧
    HasExactlyTheOpcodes "dcp" [0xC3, 0xC7, 0xCF, 0xD3, 0xD7, 0xDB, 0xDF] ∧
    RecordsAs (.xDcpIzx o) "dcp" .indexedIndirect true [0xC3, o] ("($".toList ++ hex2 o ++ ",X)".toList) (some (.byte o)) ∧
    RecordsAs (.xDcpZp o) "dcp" .zeroPage true [0xC7, o] ("$".toList ++ hex2 o) (some (.byte o)) ∧
    RecordsAs (.xDcpAbs lo hi) "dcp" .absolute true [0xCF, lo, hi] ("$".toList ++ hex4 (word16 lo hi)) (some (.addr (word16 lo hi))) ∧
    RecordsAs (.xDcpIzy o) "dcp" .indirectIndexed true [0xD3, o] ("($".toList ++ hex2 o ++ "),Y".toList) (some (.byte o)) ∧
    RecordsAs (.xDcpZpx o) "dcp" .zeroPageX true [0xD7, o] ("$".toList ++ hex2 o ++ ",X".toList) (some (.byte o)) ∧
    RecordsAs (.xDcpAby lo hi) "dcp" .absoluteY true [0xDB, lo, hi] ("$".toList ++ hex4 (word16 lo hi) ++ ",Y".toList) (some (.addr (word16 lo hi))) ∧
    RecordsAs (.xDcpAbx lo hi) "dcp" .absoluteX true [0xDF, lo, hi] ("$".toList ++ hex4 (word16 lo hi) ++ ",X".toList) (some (.addr (word16 lo hi))) ∧
    HasExactlyTheOpcodes "isc" [0xE3, 0xE7, 0xEF, 0xF3, 0xF7, 0xFB, 0xFF] ∧
    RecordsAs (.xIscIzx o) "isc" .indexedIndirect true [0xE3, o] ("($".toList ++ hex2 o ++ ",X)".toList) (some (.byte o)) ∧
    RecordsAs (.xIscZp o) "isc" .zeroPage true [0xE7, o] ("$".toList ++ hex2 o) (some (.byte o)) ∧
    RecordsAs (.xIscAbs lo hi) "isc" .absolute true [0xEF, lo, hi] ("$".toList ++ hex4 (word16 lo hi)) (some (.addr (word16 lo hi))) ∧
    RecordsAs (.xIscIzy o) "isc" .indirectIndexed true [0xF3, o] ("($".toList ++ hex2 o ++ "),Y".toList) (some (.byte o)) ∧
    RecordsAs (.xIscZpx o) "isc" .zeroPageX true [0xF7, o] ("$".toList ++ hex2 o ++ ",X".toList) (some (.byte o)) ∧
    RecordsAs (.xIscAby lo hi) "isc" .absoluteY true [0xFB, lo, hi] ("$".toList ++ hex4 (word16 lo hi) ++ ",Y".toList) (some (.addr (word16 lo hi))) ∧
    RecordsAs (.xIscAbx lo hi) "isc" .absoluteX true [0xFF, lo, hi] ("$".toList ++ hex4 (word16 lo hi) ++ ",X".toList) (some (.addr (word16 lo hi)))

/-- anc, alr, arr, xaa, axs, sbc decode to the records of R268 to R273 (R268, R269, R270, R271, R272, R273). -/
def Obligations.UndocumentedImmediatesDecodeToTheirRecords : Prop :=
  ∀ o : Byte,
    HasExactlyTheOpcodes "anc" [0x0B, 0x2B] ∧
    RecordsAs (.xAncImm0B o) "anc" .immediate true [0x0B, o] ("#$".toList ++ hex2 o) (some (.byte o)) ∧
    RecordsAs (.xAncImm2B o) "anc" .immediate true [0x2B, o] ("#$".toList ++ hex2 o) (some (.byte o)) ∧
    HasExactlyTheOpcodes "alr" [0x4B] ∧
    RecordsAs (.xAlrImm o) "alr" .immediate true [0x4B, o] ("#$".toList ++ hex2 o) (some (.byte o)) ∧
    HasExactlyTheOpcodes "arr" [0x6B] ∧
    RecordsAs (.xArrImm o) "arr" .immediate true [0x6B, o] ("#$".toList ++ hex2 o) (some (.byte o)) ∧
    HasExactlyTheOpcodes "xaa" [0x8B] ∧
    RecordsAs (.xXaaImm o) "xaa" .immediate true [0x8B, o] ("#$".toList ++ hex2 o) (some (.byte o)) ∧
    HasExactlyTheOpcodes "axs" [0xCB] ∧
    RecordsAs (.xAxsImm o) "axs" .immediate true [0xCB, o] ("#$".toList ++ hex2 o) (some (.byte o)) ∧
    HasExactlyTheOpcodes "sbc" [0xEB] ∧
    RecordsAs (.xSbcImm o) "sbc" .immediate true [0xEB, o] ("#$".toList ++ hex2 o) (some (.byte o))

/-- ahx, tas, shy, shx, las decode to the records of R274 to R278 (R274, R275, R276, R277, R278). -/
def Obligations.UnstableStoresDecodeToTheirRecords : Prop :=
  ∀ o lo hi : Byte,
    HasExactlyTheOpcodes "ahx" [0x93, 0x9F] ∧
    RecordsAs (.xAhxIzy o) "ahx" .indirectIndexed true [0x93, o] ("($".toList ++ hex2 o ++ "),Y".toList) (some (.byte o)) ∧
    RecordsAs (.xAhxAby lo hi) "ahx" .absoluteY true [0x9F, lo, hi] ("$".toList ++ hex4 (word16 lo hi) ++ ",Y".toList) (some (.addr (word16 lo hi))) ∧
    HasExactlyTheOpcodes "tas" [0x9B] ∧
    RecordsAs (.xTasAby lo hi) "tas" .absoluteY true [0x9B, lo, hi] ("$".toList ++ hex4 (word16 lo hi) ++ ",Y".toList) (some (.addr (word16 lo hi))) ∧
    HasExactlyTheOpcodes "shy" [0x9C] ∧
    RecordsAs (.xShyAbx lo hi) "shy" .absoluteX true [0x9C, lo, hi] ("$".toList ++ hex4 (word16 lo hi) ++ ",X".toList) (some (.addr (word16 lo hi))) ∧
    HasExactlyTheOpcodes "shx" [0x9E] ∧
    RecordsAs (.xShxAby lo hi) "shx" .absoluteY true [0x9E, lo, hi] ("$".toList ++ hex4 (word16 lo hi) ++ ",Y".toList) (some (.addr (word16 lo hi))) ∧
    HasExactlyTheOpcodes "las" [0xBB] ∧
    RecordsAs (.xLasAby lo hi) "las" .absoluteY true [0xBB, lo, hi] ("$".toList ++ hex4 (word16 lo hi) ++ ",Y".toList) (some (.addr (word16 lo hi)))

/-- The 27 undocumented nop forms decode to the records of R279 (R279). -/
def Obligations.UndocumentedNopsDecodeToTheirRecords : Prop :=
  ∀ o lo hi : Byte,
    HasExactlyTheOpcodes "nop" [0x04, 0x0C, 0x14, 0x1A, 0x1C, 0x34, 0x3A, 0x3C, 0x44, 0x54, 0x5A, 0x5C, 0x64, 0x74, 0x7A, 0x7C, 0x80, 0x82, 0x89, 0xC2, 0xD4, 0xDA, 0xDC, 0xE2, 0xF4, 0xFA, 0xFC] ∧
    RecordsAs (.xNopZp04 o) "nop" .zeroPage true [0x04, o] ("$".toList ++ hex2 o) (some (.byte o)) ∧
    RecordsAs (.xNopAbs lo hi) "nop" .absolute true [0x0C, lo, hi] ("$".toList ++ hex4 (word16 lo hi)) (some (.addr (word16 lo hi))) ∧
    RecordsAs (.xNopZpx14 o) "nop" .zeroPageX true [0x14, o] ("$".toList ++ hex2 o ++ ",X".toList) (some (.byte o)) ∧
    RecordsAs .xNopImp1A "nop" .implied true [0x1A] [] none ∧
    RecordsAs (.xNopAbx1C lo hi) "nop" .absoluteX true [0x1C, lo, hi] ("$".toList ++ hex4 (word16 lo hi) ++ ",X".toList) (some (.addr (word16 lo hi))) ∧
    RecordsAs (.xNopZpx34 o) "nop" .zeroPageX true [0x34, o] ("$".toList ++ hex2 o ++ ",X".toList) (some (.byte o)) ∧
    RecordsAs .xNopImp3A "nop" .implied true [0x3A] [] none ∧
    RecordsAs (.xNopAbx3C lo hi) "nop" .absoluteX true [0x3C, lo, hi] ("$".toList ++ hex4 (word16 lo hi) ++ ",X".toList) (some (.addr (word16 lo hi))) ∧
    RecordsAs (.xNopZp44 o) "nop" .zeroPage true [0x44, o] ("$".toList ++ hex2 o) (some (.byte o)) ∧
    RecordsAs (.xNopZpx54 o) "nop" .zeroPageX true [0x54, o] ("$".toList ++ hex2 o ++ ",X".toList) (some (.byte o)) ∧
    RecordsAs .xNopImp5A "nop" .implied true [0x5A] [] none ∧
    RecordsAs (.xNopAbx5C lo hi) "nop" .absoluteX true [0x5C, lo, hi] ("$".toList ++ hex4 (word16 lo hi) ++ ",X".toList) (some (.addr (word16 lo hi))) ∧
    RecordsAs (.xNopZp64 o) "nop" .zeroPage true [0x64, o] ("$".toList ++ hex2 o) (some (.byte o)) ∧
    RecordsAs (.xNopZpx74 o) "nop" .zeroPageX true [0x74, o] ("$".toList ++ hex2 o ++ ",X".toList) (some (.byte o)) ∧
    RecordsAs .xNopImp7A "nop" .implied true [0x7A] [] none ∧
    RecordsAs (.xNopAbx7C lo hi) "nop" .absoluteX true [0x7C, lo, hi] ("$".toList ++ hex4 (word16 lo hi) ++ ",X".toList) (some (.addr (word16 lo hi))) ∧
    RecordsAs (.xNopImm80 o) "nop" .immediate true [0x80, o] ("#$".toList ++ hex2 o) (some (.byte o)) ∧
    RecordsAs (.xNopImm82 o) "nop" .immediate true [0x82, o] ("#$".toList ++ hex2 o) (some (.byte o)) ∧
    RecordsAs (.xNopImm89 o) "nop" .immediate true [0x89, o] ("#$".toList ++ hex2 o) (some (.byte o)) ∧
    RecordsAs (.xNopImmC2 o) "nop" .immediate true [0xC2, o] ("#$".toList ++ hex2 o) (some (.byte o)) ∧
    RecordsAs (.xNopZpxD4 o) "nop" .zeroPageX true [0xD4, o] ("$".toList ++ hex2 o ++ ",X".toList) (some (.byte o)) ∧
    RecordsAs .xNopImpDA "nop" .implied true [0xDA] [] none ∧
    RecordsAs (.xNopAbxDC lo hi) "nop" .absoluteX true [0xDC, lo, hi] ("$".toList ++ hex4 (word16 lo hi) ++ ",X".toList) (some (.addr (word16 lo hi))) ∧
    RecordsAs (.xNopImmE2 o) "nop" .immediate true [0xE2, o] ("#$".toList ++ hex2 o) (some (.byte o)) ∧
    RecordsAs (.xNopZpxF4 o) "nop" .zeroPageX true [0xF4, o] ("$".toList ++ hex2 o ++ ",X".toList) (some (.byte o)) ∧
    RecordsAs .xNopImpFA "nop" .implied true [0xFA] [] none ∧
    RecordsAs (.xNopAbxFC lo hi) "nop" .absoluteX true [0xFC, lo, hi] ("$".toList ++ hex4 (word16 lo hi) ++ ",X".toList) (some (.addr (word16 lo hi)))

/-- The 12 kil opcodes decode to the records of R280 and do not stop the block (R280). -/
def Obligations.KilDecodesAndDecodingContinues : Prop :=
  HasExactlyTheOpcodes "kil" [0x02, 0x12, 0x22, 0x32, 0x42, 0x52, 0x62, 0x72, 0x92, 0xB2, 0xD2, 0xF2] ∧
  RecordsAs .xKilImp02 "kil" .implied true [0x02] [] none ∧
  RecordsAs .xKilImp12 "kil" .implied true [0x12] [] none ∧
  RecordsAs .xKilImp22 "kil" .implied true [0x22] [] none ∧
  RecordsAs .xKilImp32 "kil" .implied true [0x32] [] none ∧
  RecordsAs .xKilImp42 "kil" .implied true [0x42] [] none ∧
  RecordsAs .xKilImp52 "kil" .implied true [0x52] [] none ∧
  RecordsAs .xKilImp62 "kil" .implied true [0x62] [] none ∧
  RecordsAs .xKilImp72 "kil" .implied true [0x72] [] none ∧
  RecordsAs .xKilImp92 "kil" .implied true [0x92] [] none ∧
  RecordsAs .xKilImpB2 "kil" .implied true [0xB2] [] none ∧
  RecordsAs .xKilImpD2 "kil" .implied true [0xD2] [] none ∧
  RecordsAs .xKilImpF2 "kil" .implied true [0xF2] [] none

/-- The reset state meets the invariant (R330, 70_reset_and_hazards.md section 1). -/
def Obligations.ResetMeetsTheInvariant : Prop :=
  State.reset.Inv

/-- Every step keeps the invariant (R8, R26, R42, R111, R119, R120, R123). -/
def Obligations.EveryStepKeepsTheInvariant : Prop :=
  ∀ s t : State, s.Inv → step s = .next t → t.Inv

/-- Under the invariant every step completes, unless the host makes a move that it must not make (R300, R301, R315).
-/
def Obligations.StepsAlwaysComplete : Prop :=
  ∀ s : State, s.Inv → s.HostDutiful → ∃ t, step s = .next t

/-- A Busy step always decodes one record or finishes (R300). -/
def Obligations.BusyStepNeverRaises : Prop :=
  ∀ s : State, s.Inv → s.phase = .busy → s.hostMoves = [] →
    (s.cursor < s.dataEnd →
      ∃ r : Record,
        step s = .next { s with cursor := s.cursor + r.length, out := s.out ++ [r] } ∧
        r.opcodeByte = Memory.read s.buf s.cursor ∧
        r.length = 1 + (lookup s.params.rom r.opcodeByte).mode.operandBytes ∧
        s.cursor + r.length ≤ s.params.bufSize ∧
        r.rawBytes = bytesAt s.buf s.cursor r.length) ∧
    (s.dataEnd ≤ s.cursor → step s = .next { s with phase := .done })

/-- A Busy step depends on no buffer byte outside START to START+LEN+2 (R42, R51, 20_memory.md section 1). -/
def Obligations.StepReadsOnlyTheRequestsBytes : Prop :=
  ∀ (s t : State) (m : Memory), s.Inv → s.phase = .busy → s.hostMoves = [] →
    (∀ o, s.reqStart ≤ o → o < s.dataEnd + 2 → Memory.read m o = Memory.read s.buf o) →
    step s = .next t → step { s with buf := m } = .next { t with buf := m }

/-- Two requests with the same bytes, operands and parameters produce the same OUT (R51). -/
def Obligations.SameRequestSameOutput : Prop :=
  ∀ (s₁ s₂ : State) (r : Request) (k : Nat),
    s₁.phase ≠ .busy → s₂.phase ≠ .busy →
    s₁.hostMoves = [.start r] → s₂.hostMoves = [.start r] →
    s₁.params = s₂.params →
    r.start + r.len + 2 ≤ s₁.params.bufSize →
    (∀ o, r.start ≤ o → o < r.start + r.len + 2 → Memory.read s₁.buf o = Memory.read s₂.buf o) →
      ∃ t₁ t₂, run (k + 1) s₁ = .next t₁ ∧ run (k + 1) s₂ = .next t₂ ∧ t₁.out = t₂.out ∧ t₁.phase = t₂.phase

/-- A request makes at most LEN decode steps and then one finishing step (R121). -/
def Obligations.RequestEndsWithinLenPlusOneSteps : Prop :=
  ∀ (s : State) (r : Request),
    s.phase ≠ .busy → s.hostMoves = [.start r] → r.start + r.len + 2 ≤ s.params.bufSize →
      ∃ k, k ≤ r.len ∧
        (∀ j, j < k → ∃ a b, run (j + 1) s = .next a ∧ run (j + 2) s = .next b ∧
          a.phase = .busy ∧ b.phase = .busy ∧ a.cursor + 1 ≤ b.cursor ∧ ∃ x, b.out = a.out ++ [x]) ∧
        ∃ u, run (k + 1) s = .next u ∧ u.phase = .busy ∧ u.out.length = k ∧
          run (k + 2) s = .next { u with phase := .done }

/-- A request's finished OUT is the listing of the buffer's bytes (R113, R114, R118, 41_decode_sequencer.md section
2). -/
def Obligations.FinishedOutputIsTheListing : Prop :=
  ∀ (s : State) (r : Request),
    s.phase ≠ .busy → s.hostMoves = [.start r] → r.start + r.len + 2 ≤ s.params.bufSize →
      ∃ k t, k ≤ r.len + 2 ∧ run k s = .next t ∧ t.phase = .done ∧ t.buf = s.buf ∧
        t.out = listing s.params s.buf r.load (r.start + r.len) r.len r.start

/-- The records of a finished request cover the data without gap or overlap (R120). -/
def Obligations.FinishedOutputCoversTheData : Prop :=
  ∀ (s t : State) (r : Request) (k : Nat),
    s.phase ≠ .busy → s.hostMoves = [.start r] → r.start + r.len + 2 ≤ s.params.bufSize →
    run (k + 1) s = .next t → t.phase = .done →
      Tiles r.load (r.start + r.len) r.start t.out t.cursor ∧
      r.start + r.len ≤ t.cursor ∧ t.cursor ≤ r.start + r.len + 2 ∧
      (t.out = [] ↔ r.len = 0)

/-- A step only appends to OUT, unless it accepts a Start or resets (R22). -/
def Obligations.EmittedRecordsNeverChange : Prop :=
  ∀ s t : State, step s = .next t →
    (∃ records, t.out = s.out ++ records) ∨
    (∃ r more, s.hostMoves = .start r :: more ∧ t.reply = some .accepted ∧ t.phase = .busy ∧ t.out = []) ∨
    (∃ more, (s.hostMoves = .reset :: more ∨ ∃ r, s.hostMoves = .resetAndStart r :: more) ∧ t.phase = .idle ∧
      t.out = [])

/-- The phase moves only by an accepted Start, at the end of the data, or by reset (R26, R124). -/
def Obligations.PhaseMovesOnlyAsListed : Prop :=
  (∀ s t : State, step s = .next t →
    t.phase = s.phase ∨
    (s.phase ≠ .busy ∧ t.phase = .busy ∧ t.reply = some .accepted ∧ ∃ r more, s.hostMoves = .start r :: more) ∨
    (s.phase = .busy ∧ t.phase = .done ∧ s.dataEnd ≤ s.cursor ∧ t.out = s.out) ∨
    (t.phase = .idle ∧ ∃ more, s.hostMoves = .reset :: more ∨ ∃ r, s.hostMoves = .resetAndStart r :: more)) ∧
  (∀ s t : State, s.Inv → step s = .next t → t.phase = .idle → t.out = [])

/-- No instruction and no step of the block writes the buffer or the parameters (R41). -/
def Obligations.BlockWritesNoMemory : Prop :=
  (∀ (i : Instr) (s t : State), exec i s = .next t →
    t.params = s.params ∧ t.buf = s.buf ∧ ∀ o, Memory.read t.buf o = Memory.read s.buf o) ∧
  (∀ s t : State, step s = .next t →
    t.params = s.params ∧ ((∀ o v more, s.hostMoves ≠ .write o v :: more) → t.buf = s.buf))

/-- From START on, the cursor never passes the pad, the buffer or its own width (R24, R5, R42). -/
def Obligations.CursorStaysInsideTheBuffer : Prop :=
  ∀ s : State, s.Inv → s.phase ≠ .idle →
    s.reqStart ≤ s.cursor ∧ s.cursor ≤ s.dataEnd + 2 ∧ s.cursor ≤ s.params.bufSize ∧
      s.cursor < 2 ^ s.params.offsetBits

/-- Every emitted mnemonic has three letters, in lower case exactly if the record is illegal (R72). -/
def Obligations.MnemonicsAreThreeLettersInTheRightCase : Prop :=
  ∀ (i : Instr) (s t : State), s.params.wellFormed = true → exec i s = .next t →
    ∃ r : Record, t.out = s.out ++ [r] ∧ r.mnemonic.length = 3 ∧
      (∀ c ∈ r.mnemonic, if r.illegal then isLower c = true else isUpper c = true) ∧
      (r.illegal = false → r.mnemonic = (lookup s.params.rom r.opcodeByte).mnemonic)

/-- The mnemonic, operand text and line of every record are ASCII (R8). -/
def Obligations.EmittedTextIsAscii : Prop :=
  (∀ (i : Instr) (s t : State), s.params.wellFormed = true → exec i s = .next t →
    ∃ r : Record, t.out = s.out ++ [r] ∧ isAscii r.mnemonic = true ∧ isAscii r.operandText = true ∧
      isAscii r.lineText = true) ∧
  (∀ s t : State, s.Inv → step s = .next t → ∀ r ∈ t.out,
    isAscii r.mnemonic = true ∧ isAscii r.operandText = true ∧ isAscii r.lineText = true)

/-- ILLEGAL_MNEMONICS changes only the mnemonic and the line of illegal records (R281, R104). -/
def Obligations.IllegalSpellingsChangeOnlyText : Prop :=
  ∀ (i : Instr) (s t : State) (names : List (Text × Text)), exec i s = .next t →
    ∃ r r' : Record, t.out = s.out ++ [r] ∧
      exec i { s with params := { s.params with illegalMnemonics := names } } =
        .next { t with params := { s.params with illegalMnemonics := names }, out := s.out ++ [r'] } ∧
      r' = { r with mnemonic := r'.mnemonic, lineText := r'.lineText } ∧
      r'.lineText = (if r'.operandText = [] then r'.mnemonic else r'.mnemonic ++ [' '] ++ r'.operandText) ∧
      (r.illegal = false → r' = r)

/-- REL_FORMAT changes only the operand text and the line of branch records (R145, 92_eei_decisions.md D7). -/
def Obligations.RelativeLayoutChangesOnlyText : Prop :=
  ∀ (i : Instr) (s t : State) (f : RelFormat), exec i s = .next t →
    ∃ r r' : Record, t.out = s.out ++ [r] ∧
      exec i { s with params := { s.params with relFormat := f } } =
        .next { t with params := { s.params with relFormat := f }, out := s.out ++ [r'] } ∧
      r' = { r with operandText := r'.operandText, lineText := r'.lineText } ∧
      (r.mode ≠ .relative → r' = r)

/-- A window that starts at CPU address A in a file loaded at L has its first record at A (R334). -/
def Obligations.WindowStartsAtItsOwnAddress : Prop :=
  ∀ (s : State) (L : Addr) (A len : Nat),
    s.phase ≠ .busy → s.hostMoves = [.start ⟨L, A - L.toNat, len⟩] → L.toNat ≤ A → 0 < len →
    (A - L.toNat) + len + 2 ≤ s.params.bufSize →
      ∃ t r, run 2 s = .next t ∧ t.out = [r] ∧ r.address.toNat = A % 65536

/-- After withFetchWord the very next step runs the placed instruction (the model's placing, assumption 8) (R114,
R333). -/
def Obligations.PlacedInstructionRunsNext : Prop :=
  ∀ (s : State) (i : Instr), Memory.wf s.buf →
    let placed := s.withFetchWord (8 * (encode i).length) ((encode i).foldr (fun b w => b.toNat + 256 * w) 0)
    placed.Decoding ∧ step placed = exec i placed ∧ ∃ t, step placed = .next t
end

