-- ==== Sys2Proof/Laws/Decode.lean ====
section
/-! SUPPORT. How the decoder's table, the default ROM and the encoder fit together: decoding and encoding are inverse, and every
byte list that is long enough decodes. -/

namespace Sys2Proof

open Machine

/-- The opcode byte and the operand bytes of an instruction, a missing one being 0. -/
def Instr.byte (i : Instr) (k : Nat) : Byte := (encode i).getD k 0

theorem byte_zero (i : Instr) : i.byte 0 = (encode i).headD 0 := by
  unfold Instr.byte
  cases encode i <;> rfl

/-- The decoder's table gives back the instruction whose bytes these are. -/
theorem instrOf_bytes (i : Instr) : instrOf (i.byte 0) (i.byte 1) (i.byte 2) = i := by
  cases i <;> simp only [Instr.byte, encode, List.getD_cons_zero, List.getD_cons_succ, List.getD_nil] <;> rfl

/-- From the opcode byte `n` on, a stretch of the decoder's table has the opcode bytes and the lengths of the same stretch
of the ROM. -/
def Fits (b1 b2 : Byte) : Nat → List (Byte → Byte → Instr) → List OpcodeEntry → Prop
  | _, [], [] => True
  | n, f :: fs, e :: es =>
    encode (f b1 b2) = [BitVec.ofNat 8 n, b1, b2].take (1 + e.mode.operandBytes) ∧ Fits b1 b2 (n + 1) fs es
  | _, [], _ :: _ => False
  | _, _ :: _, [] => False

theorem Fits.get {b1 b2 : Byte} {n : Nat} {fs : List (Byte → Byte → Instr)} {es : List OpcodeEntry}
    (h : Fits b1 b2 n fs es) (k : Nat) (hf : k < fs.length) (he : k < es.length) :
    encode (fs[k] b1 b2) = [BitVec.ofNat 8 (n + k), b1, b2].take (1 + es[k].mode.operandBytes) := by
  induction fs generalizing n es k with
  | nil => simp at hf
  | cons f fs ih =>
    cases es with
    | nil => simp at he
    | cons e es =>
      cases k with
      | zero => exact h.1
      | succ k =>
        have := ih h.2 k (by simpa using hf) (by simpa using he)
        simpa [Nat.add_assoc, Nat.add_comm 1] using this

theorem fits_row0 (b1 b2 : Byte) : Fits b1 b2 0x00 instrRow0 romRow0.toList :=
  ⟨rfl, rfl, rfl, rfl, rfl, rfl, rfl, rfl, rfl, rfl, rfl, rfl, rfl, rfl, rfl, rfl, trivial⟩

theorem fits_row1 (b1 b2 : Byte) : Fits b1 b2 0x10 instrRow1 romRow1.toList :=
  ⟨rfl, rfl, rfl, rfl, rfl, rfl, rfl, rfl, rfl, rfl, rfl, rfl, rfl, rfl, rfl, rfl, trivial⟩

theorem fits_row2 (b1 b2 : Byte) : Fits b1 b2 0x20 instrRow2 romRow2.toList :=
  ⟨rfl, rfl, rfl, rfl, rfl, rfl, rfl, rfl, rfl, rfl, rfl, rfl, rfl, rfl, rfl, rfl, trivial⟩

theorem fits_row3 (b1 b2 : Byte) : Fits b1 b2 0x30 instrRow3 romRow3.toList :=
  ⟨rfl, rfl, rfl, rfl, rfl, rfl, rfl, rfl, rfl, rfl, rfl, rfl, rfl, rfl, rfl, rfl, trivial⟩

theorem fits_row4 (b1 b2 : Byte) : Fits b1 b2 0x40 instrRow4 romRow4.toList :=
  ⟨rfl, rfl, rfl, rfl, rfl, rfl, rfl, rfl, rfl, rfl, rfl, rfl, rfl, rfl, rfl, rfl, trivial⟩

theorem fits_row5 (b1 b2 : Byte) : Fits b1 b2 0x50 instrRow5 romRow5.toList :=
  ⟨rfl, rfl, rfl, rfl, rfl, rfl, rfl, rfl, rfl, rfl, rfl, rfl, rfl, rfl, rfl, rfl, trivial⟩

theorem fits_row6 (b1 b2 : Byte) : Fits b1 b2 0x60 instrRow6 romRow6.toList :=
  ⟨rfl, rfl, rfl, rfl, rfl, rfl, rfl, rfl, rfl, rfl, rfl, rfl, rfl, rfl, rfl, rfl, trivial⟩

theorem fits_row7 (b1 b2 : Byte) : Fits b1 b2 0x70 instrRow7 romRow7.toList :=
  ⟨rfl, rfl, rfl, rfl, rfl, rfl, rfl, rfl, rfl, rfl, rfl, rfl, rfl, rfl, rfl, rfl, trivial⟩

theorem fits_row8 (b1 b2 : Byte) : Fits b1 b2 0x80 instrRow8 romRow8.toList :=
  ⟨rfl, rfl, rfl, rfl, rfl, rfl, rfl, rfl, rfl, rfl, rfl, rfl, rfl, rfl, rfl, rfl, trivial⟩

theorem fits_row9 (b1 b2 : Byte) : Fits b1 b2 0x90 instrRow9 romRow9.toList :=
  ⟨rfl, rfl, rfl, rfl, rfl, rfl, rfl, rfl, rfl, rfl, rfl, rfl, rfl, rfl, rfl, rfl, trivial⟩

theorem fits_rowA (b1 b2 : Byte) : Fits b1 b2 0xA0 instrRowA romRowA.toList :=
  ⟨rfl, rfl, rfl, rfl, rfl, rfl, rfl, rfl, rfl, rfl, rfl, rfl, rfl, rfl, rfl, rfl, trivial⟩

theorem fits_rowB (b1 b2 : Byte) : Fits b1 b2 0xB0 instrRowB romRowB.toList :=
  ⟨rfl, rfl, rfl, rfl, rfl, rfl, rfl, rfl, rfl, rfl, rfl, rfl, rfl, rfl, rfl, rfl, trivial⟩

theorem fits_rowC (b1 b2 : Byte) : Fits b1 b2 0xC0 instrRowC romRowC.toList :=
  ⟨rfl, rfl, rfl, rfl, rfl, rfl, rfl, rfl, rfl, rfl, rfl, rfl, rfl, rfl, rfl, rfl, trivial⟩

theorem fits_rowD (b1 b2 : Byte) : Fits b1 b2 0xD0 instrRowD romRowD.toList :=
  ⟨rfl, rfl, rfl, rfl, rfl, rfl, rfl, rfl, rfl, rfl, rfl, rfl, rfl, rfl, rfl, rfl, trivial⟩

theorem fits_rowE (b1 b2 : Byte) : Fits b1 b2 0xE0 instrRowE romRowE.toList :=
  ⟨rfl, rfl, rfl, rfl, rfl, rfl, rfl, rfl, rfl, rfl, rfl, rfl, rfl, rfl, rfl, rfl, trivial⟩

theorem fits_rowF (b1 b2 : Byte) : Fits b1 b2 0xF0 instrRowF romRowF.toList :=
  ⟨rfl, rfl, rfl, rfl, rfl, rfl, rfl, rfl, rfl, rfl, rfl, rfl, rfl, rfl, rfl, rfl, trivial⟩

/-- The decoder's table and the ROM fit, row by row. -/
theorem fits_rows (b1 b2 : Byte) (h : Nat) (hi : h < instrRows.length) (hr : h < 16) :
    Fits b1 b2 (16 * h) (instrRows[h]'hi) (defaultRom[h]'hr).toList := by
  match h, hi, hr with
  | 0, _, _ => exact fits_row0 b1 b2
  | 1, _, _ => exact fits_row1 b1 b2
  | 2, _, _ => exact fits_row2 b1 b2
  | 3, _, _ => exact fits_row3 b1 b2
  | 4, _, _ => exact fits_row4 b1 b2
  | 5, _, _ => exact fits_row5 b1 b2
  | 6, _, _ => exact fits_row6 b1 b2
  | 7, _, _ => exact fits_row7 b1 b2
  | 8, _, _ => exact fits_row8 b1 b2
  | 9, _, _ => exact fits_row9 b1 b2
  | 10, _, _ => exact fits_rowA b1 b2
  | 11, _, _ => exact fits_rowB b1 b2
  | 12, _, _ => exact fits_rowC b1 b2
  | 13, _, _ => exact fits_rowD b1 b2
  | 14, _, _ => exact fits_rowE b1 b2
  | 15, _, _ => exact fits_rowF b1 b2
  | n + 16, hi, _ => exact absurd hi (by simp [instrRows_length])

/-- The bytes of the instruction that the decoder's table holds for an opcode byte. -/
theorem encode_instrOf (b0 b1 b2 : Byte) :
    encode (instrOf b0 b1 b2) = [b0, b1, b2].take (1 + (lookup defaultRom b0).mode.operandBytes) := by
  have hi : b0.toNat / 16 < instrRows.length := by rw [instrRows_length]; omega
  have hr : b0.toNat / 16 < 16 := by omega
  have h1 : b0.toNat % 16 < (instrRows[b0.toNat / 16]'hi).length := by rw [instrRow_length hi]; omega
  have h2 : b0.toNat % 16 < (defaultRom[b0.toNat / 16]'hr).toList.length := by rw [Vector.length_toList]; omega
  have := (fits_rows b1 b2 (b0.toNat / 16) hi hr).get (b0.toNat % 16) h1 h2
  rw [Nat.div_add_mod, BitVec.ofNat_toNat, BitVec.setWidth_eq, Vector.getElem_toList] at this
  exact this

/-- What holds for every row and column of R67's map holds for every opcode byte. -/
theorem forall_byte {P : Byte → Prop} (h : ∀ row column : Fin 16, P (BitVec.ofNat 8 (16 * row.val + column.val)))
    (b : Byte) : P b := by
  have := h ⟨b.toNat / 16, by omega⟩ ⟨b.toNat % 16, by omega⟩
  simpa [Nat.div_add_mod] using this

/-- A mode has at most two operand bytes (R5, R60). -/
theorem operandBytes_le (m : Mode) : m.operandBytes ≤ 2 := by cases m <;> decide

/-- An instruction is its bytes, as many as the ROM says of its opcode byte (R64). -/
theorem encode_eq_take (i : Instr) :
    encode i = [i.byte 0, i.byte 1, i.byte 2].take (1 + (lookup defaultRom (i.byte 0)).mode.operandBytes) := by
  rw [← encode_instrOf, instrOf_bytes]

theorem encode_length (i : Instr) : (encode i).length = 1 + (lookup defaultRom (i.byte 0)).mode.operandBytes := by
  have := operandBytes_le (lookup defaultRom (i.byte 0)).mode
  rw [encode_eq_take, List.length_take]
  simp only [List.length_cons, List.length_nil]
  omega

/-- Two instructions with the same bytes are the same. -/
theorem encode_injective {i j : Instr} (h : encode i = encode j) : i = j := by
  rw [← instrOf_bytes i, ← instrOf_bytes j]
  simp [Instr.byte, h]

theorem byte_zero_instrOf (b0 b1 b2 : Byte) : (instrOf b0 b1 b2).byte 0 = b0 := by
  simp [Instr.byte, encode_instrOf, Nat.add_comm 1]

/-- The instruction of an opcode byte depends on no byte that its mode does not read. -/
theorem instrOf_congr {b0 b1 b2 x1 x2 : Byte} (h1 : 1 ≤ (lookup defaultRom b0).mode.operandBytes → b1 = x1)
    (h2 : (lookup defaultRom b0).mode.operandBytes = 2 → b2 = x2) : instrOf b0 b1 b2 = instrOf b0 x1 x2 := by
  apply encode_injective
  rw [encode_instrOf, encode_instrOf]
  have := operandBytes_le (lookup defaultRom b0).mode
  generalize (lookup defaultRom b0).mode.operandBytes = n at *
  interval_cases n <;> simp_all

/-- Decoding reads the opcode byte and as many operand bytes as its mode needs, and gives back the rest. -/
theorem decode_take_append (b0 b1 b2 : Byte) (rest : List Byte) :
    decode ([b0, b1, b2].take (1 + (lookup defaultRom b0).mode.operandBytes) ++ rest) = .ok (instrOf b0 b1 b2, rest) := by
  cases hf : (lookup defaultRom b0).mode.format <;>
    simp [decode, hf, Mode.operandBytes, Format.operandBytes] <;>
    exact instrOf_congr (by simp [Mode.operandBytes, Format.operandBytes, hf])
      (by simp [Mode.operandBytes, Format.operandBytes, hf])

end Sys2Proof
end

