-- ==== Sys2Proof/Laws/Memory.lean ====
section
/-! SUPPORT. The laws of the buffer: a read after a write, and that a write keeps the canonical form, so that equal
buffers are equal data. -/

namespace Sys2Proof.Machine

@[simp] theorem Memory.read_nil (o : Nat) : Memory.read [] o = blankByte := rfl

@[simp] theorem Memory.read_cons (a : Nat) (b : Byte) (m : Memory) (o : Nat) :
    Memory.read ((a, b) :: m) o = if a = o then b else Memory.read m o := rfl

/-- An offset that no cell lists reads as the blank byte. -/
theorem Memory.read_of_unlisted {m : Memory} {o : Nat} (h : ∀ c ∈ m, c.1 ≠ o) : Memory.read m o = blankByte := by
  induction m with
  | nil => rfl
  | cons c m ih =>
    obtain ⟨a, b⟩ := c
    rw [Memory.read_cons, if_neg (h (a, b) (by simp)), ih fun c hc => h c (by simp [hc])]

/-- A read of what `put` puts in front of cells that lie behind it. -/
theorem Memory.read_put (o : Nat) (v : Byte) (m : Memory) (x : Nat) (h : ∀ c ∈ m, o < c.1) :
    Memory.read (Memory.put o v m) x = if o = x then v else Memory.read m x := by
  unfold Memory.put
  split
  · next hv =>
    split
    · next hx => subst hx; rw [hv, Memory.read_of_unlisted fun c hc => (h c hc).ne']
    · rfl
  · rfl

/-- The tail of a canonical memory is canonical, and lies behind its head. -/
theorem Memory.wf_cons {a : Nat} {b : Byte} {m : Memory} :
    Memory.wf ((a, b) :: m) ↔ (∀ c ∈ m, a < c.1) ∧ b ≠ blankByte ∧ Memory.wf m := by
  simp only [Memory.wf, List.pairwise_cons, List.mem_cons, forall_eq_or_imp]
  tauto

/-- A read after a write. -/
theorem Memory.read_write {m : Memory} (h : Memory.wf m) (o : Nat) (v : Byte) (x : Nat) :
    Memory.read (Memory.write m o v) x = if o = x then v else Memory.read m x := by
  induction m with
  | nil => exact Memory.read_put o v [] x (by simp)
  | cons c m ih =>
    obtain ⟨a, b⟩ := c
    obtain ⟨hlt, -, hm⟩ := Memory.wf_cons.1 h
    unfold Memory.write
    split
    · next ho =>
      refine Memory.read_put o v _ x fun c hc => ?_
      rcases List.mem_cons.1 hc with rfl | hc
      · exact ho
      · exact ho.trans (hlt c hc)
    · split
      · next hoa =>
        subst hoa
        rw [Memory.read_put o v m x hlt, Memory.read_cons]
        split <;> rfl
      · next hoa =>
        rw [Memory.read_cons, Memory.read_cons, ih hm]
        grind

theorem Memory.read_write_same {m : Memory} (h : Memory.wf m) (o : Nat) (v : Byte) :
    Memory.read (Memory.write m o v) o = v := by simp [Memory.read_write h]

theorem Memory.read_write_other {m : Memory} (h : Memory.wf m) {o x : Nat} (v : Byte) (hx : o ≠ x) :
    Memory.read (Memory.write m o v) x = Memory.read m x := by simp [Memory.read_write h, hx]

/-- `put` in front of cells that lie behind it keeps the canonical form. -/
theorem Memory.put_wf {o : Nat} {v : Byte} {m : Memory} (hm : Memory.wf m) (h : ∀ c ∈ m, o < c.1) :
    Memory.wf (Memory.put o v m) := by
  unfold Memory.put
  split
  · exact hm
  · next hv => exact Memory.wf_cons.2 ⟨h, hv, hm⟩

/-- A written memory lists no offset but the written one and those listed before. -/
theorem Memory.mem_write {m : Memory} {o : Nat} {v : Byte} {c : Host.Cell} (h : c ∈ Memory.write m o v) :
    c.1 = o ∨ c ∈ m := by
  induction m with
  | nil =>
    unfold Memory.write Memory.put at h
    split at h <;> simp_all
  | cons d m ih =>
    obtain ⟨a, b⟩ := d
    unfold Memory.write Memory.put at h
    grind

/-- A write keeps the canonical form. -/
theorem Memory.write_wf {m : Memory} (h : Memory.wf m) (o : Nat) (v : Byte) : Memory.wf (Memory.write m o v) := by
  induction m with
  | nil => exact Memory.put_wf h (by simp)
  | cons c m ih =>
    obtain ⟨a, b⟩ := c
    obtain ⟨hlt, hb, hm⟩ := Memory.wf_cons.1 h
    unfold Memory.write
    split
    · next ho =>
      refine Memory.put_wf h fun c hc => ?_
      rcases List.mem_cons.1 hc with rfl | hc
      · exact ho
      · exact ho.trans (hlt c hc)
    · split
      · next hoa => subst hoa; exact Memory.put_wf hm hlt
      · next h1 h2 =>
        refine Memory.wf_cons.2 ⟨fun c hc => ?_, hb, ih hm⟩
        rcases Memory.mem_write hc with hc | hc
        · omega
        · exact hlt c hc

/-- Two canonical memories that read the same everywhere are the same data. -/
theorem Memory.eq_of_read_eq {m m' : Memory} (h : Memory.wf m) (h' : Memory.wf m')
    (heq : ∀ o, Memory.read m o = Memory.read m' o) : m = m' := by
  induction m generalizing m' with
  | nil =>
    cases m' with
    | nil => rfl
    | cons c m' =>
      obtain ⟨a, b⟩ := c
      have := heq a
      exact absurd (by simpa using this.symm) (Memory.wf_cons.1 h').2.1
  | cons c m ih =>
    obtain ⟨a, b⟩ := c
    obtain ⟨hlt, hb, hm⟩ := Memory.wf_cons.1 h
    cases m' with
    | nil => exact absurd (by simpa using heq a) hb
    | cons c' m' =>
      obtain ⟨a', b'⟩ := c'
      obtain ⟨hlt', hb', hm'⟩ := Memory.wf_cons.1 h'
      have behind : ∀ {n : Memory} {x y : Nat}, (∀ c ∈ n, x < c.1) → y ≤ x → Memory.read n y = blankByte :=
        fun hn hy => Memory.read_of_unlisted fun c hc => by have := hn c hc; omega
      have haa : a = a' := by
        rcases Nat.lt_trichotomy a a' with hl | he | hl
        · have := heq a
          rw [Memory.read_cons, Memory.read_cons, if_pos rfl, if_neg (by omega), behind hlt' hl.le] at this
          exact absurd this hb
        · exact he
        · have := heq a'
          rw [Memory.read_cons, Memory.read_cons, if_pos rfl, if_neg (by omega), behind hlt hl.le] at this
          exact absurd this.symm hb'
      subst haa
      have hbb : b = b' := by simpa using heq a
      subst hbb
      refine congrArg _ (ih hm hm' fun o => ?_)
      by_cases ho : a = o
      · subst ho
        rw [behind hlt le_rfl, behind hlt' le_rfl]
      · have := heq o
        rwa [Memory.read_cons, Memory.read_cons, if_neg ho, if_neg ho] at this

/-- The buffer of the reset state is canonical. -/
theorem reset_buf_wf : Memory.wf State.reset.buf := by simp [State.reset, Memory.wf]

end Sys2Proof.Machine
end

