-- ==== Sys2Proof/Laws/State.lean ====
section
/-! SUPPORT. One lemma for each field of State that an update of Machine/Ops.lean leaves or sets. -/

namespace Sys2Proof.Machine

section
variable (s : State) (r : Record) (v : Nat) (q : Request) (c : RefusalCode)

@[simp] theorem emit_out : (emit r s).out = s.out ++ [r] := rfl
@[simp] theorem emit_phase : (emit r s).phase = s.phase := rfl
@[simp] theorem emit_cursor : (emit r s).cursor = s.cursor := rfl
@[simp] theorem emit_dataEnd : (emit r s).dataEnd = s.dataEnd := rfl
@[simp] theorem emit_load : (emit r s).load = s.load := rfl
@[simp] theorem emit_buf : (emit r s).buf = s.buf := rfl
@[simp] theorem emit_params : (emit r s).params = s.params := rfl
@[simp] theorem emit_hostMoves : (emit r s).hostMoves = s.hostMoves := rfl
@[simp] theorem emit_reply : (emit r s).reply = s.reply := rfl
@[simp] theorem emit_reqStart : (emit r s).reqStart = s.reqStart := rfl

@[simp] theorem setCursor_cursor : (setCursor v s).cursor = v := rfl
@[simp] theorem setCursor_out : (setCursor v s).out = s.out := rfl
@[simp] theorem setCursor_phase : (setCursor v s).phase = s.phase := rfl
@[simp] theorem setCursor_dataEnd : (setCursor v s).dataEnd = s.dataEnd := rfl
@[simp] theorem setCursor_load : (setCursor v s).load = s.load := rfl
@[simp] theorem setCursor_buf : (setCursor v s).buf = s.buf := rfl
@[simp] theorem setCursor_params : (setCursor v s).params = s.params := rfl
@[simp] theorem setCursor_hostMoves : (setCursor v s).hostMoves = s.hostMoves := rfl
@[simp] theorem setCursor_reply : (setCursor v s).reply = s.reply := rfl
@[simp] theorem setCursor_reqStart : (setCursor v s).reqStart = s.reqStart := rfl

@[simp] theorem finish_phase : (finish s).phase = .done := rfl
@[simp] theorem finish_cursor : (finish s).cursor = s.cursor := rfl
@[simp] theorem finish_dataEnd : (finish s).dataEnd = s.dataEnd := rfl
@[simp] theorem finish_load : (finish s).load = s.load := rfl
@[simp] theorem finish_out : (finish s).out = s.out := rfl
@[simp] theorem finish_buf : (finish s).buf = s.buf := rfl
@[simp] theorem finish_params : (finish s).params = s.params := rfl
@[simp] theorem finish_hostMoves : (finish s).hostMoves = s.hostMoves := rfl
@[simp] theorem finish_reply : (finish s).reply = s.reply := rfl
@[simp] theorem finish_reqStart : (finish s).reqStart = s.reqStart := rfl

@[simp] theorem acceptStart_phase : (acceptStart q s).phase = .busy := rfl
@[simp] theorem acceptStart_cursor : (acceptStart q s).cursor = q.start := rfl
@[simp] theorem acceptStart_dataEnd : (acceptStart q s).dataEnd = q.start + q.len := rfl
@[simp] theorem acceptStart_load : (acceptStart q s).load = q.load := rfl
@[simp] theorem acceptStart_out : (acceptStart q s).out = [] := rfl
@[simp] theorem acceptStart_buf : (acceptStart q s).buf = s.buf := rfl
@[simp] theorem acceptStart_params : (acceptStart q s).params = s.params := rfl
@[simp] theorem acceptStart_hostMoves : (acceptStart q s).hostMoves = s.hostMoves := rfl
@[simp] theorem acceptStart_reply : (acceptStart q s).reply = some .accepted := rfl
@[simp] theorem acceptStart_reqStart : (acceptStart q s).reqStart = q.start := rfl

@[simp] theorem refuseStart_phase : (refuseStart c s).phase = s.phase := rfl
@[simp] theorem refuseStart_cursor : (refuseStart c s).cursor = s.cursor := rfl
@[simp] theorem refuseStart_dataEnd : (refuseStart c s).dataEnd = s.dataEnd := rfl
@[simp] theorem refuseStart_load : (refuseStart c s).load = s.load := rfl
@[simp] theorem refuseStart_out : (refuseStart c s).out = s.out := rfl
@[simp] theorem refuseStart_buf : (refuseStart c s).buf = s.buf := rfl
@[simp] theorem refuseStart_params : (refuseStart c s).params = s.params := rfl
@[simp] theorem refuseStart_hostMoves : (refuseStart c s).hostMoves = s.hostMoves := rfl
@[simp] theorem refuseStart_reply : (refuseStart c s).reply = some (.refused c) := rfl
@[simp] theorem refuseStart_reqStart : (refuseStart c s).reqStart = s.reqStart := rfl

@[simp] theorem resetBlock_phase : (resetBlock s).phase = .idle := rfl
@[simp] theorem resetBlock_cursor : (resetBlock s).cursor = 0 := rfl
@[simp] theorem resetBlock_dataEnd : (resetBlock s).dataEnd = 0 := rfl
@[simp] theorem resetBlock_load : (resetBlock s).load = 0 := rfl
@[simp] theorem resetBlock_out : (resetBlock s).out = [] := rfl
@[simp] theorem resetBlock_buf : (resetBlock s).buf = s.buf := rfl
@[simp] theorem resetBlock_params : (resetBlock s).params = s.params := rfl
@[simp] theorem resetBlock_hostMoves : (resetBlock s).hostMoves = s.hostMoves := rfl
@[simp] theorem resetBlock_reply : (resetBlock s).reply = none := rfl
@[simp] theorem resetBlock_reqStart : (resetBlock s).reqStart = 0 := rfl

@[simp] theorem dropMove_phase : (dropMove s).phase = s.phase := rfl
@[simp] theorem dropMove_cursor : (dropMove s).cursor = s.cursor := rfl
@[simp] theorem dropMove_dataEnd : (dropMove s).dataEnd = s.dataEnd := rfl
@[simp] theorem dropMove_load : (dropMove s).load = s.load := rfl
@[simp] theorem dropMove_out : (dropMove s).out = s.out := rfl
@[simp] theorem dropMove_buf : (dropMove s).buf = s.buf := rfl
@[simp] theorem dropMove_params : (dropMove s).params = s.params := rfl
@[simp] theorem dropMove_hostMoves : (dropMove s).hostMoves = s.hostMoves.tail := rfl
@[simp] theorem dropMove_reply : (dropMove s).reply = s.reply := rfl
@[simp] theorem dropMove_reqStart : (dropMove s).reqStart = s.reqStart := rfl

/-- With no coming move there is none to drop. -/
theorem dropMove_of_nil (h : s.hostMoves = []) : dropMove s = s := by
  cases s; simp_all [dropMove]

end

end Sys2Proof.Machine
end

