-- ==== Sys2Proof/Laws/Ops.lean ====
section
/-! SUPPORT. What each shared operation can do, said once: the reads, the decode step, an instruction's meaning as a
decode step of its bytes, and the answer to a Start. -/

namespace Sys2Proof.Machine

@[simp] theorem orFault_ok {α : Type} (a : α) (k : α → Result) : orFault (.ok a) k = k a := rfl
@[simp] theorem orFault_error {α : Type} (e : Fault) (k : α → Result) : orFault (.error e) k = .fault e := rfl

@[simp] theorem readByte_of_lt {s : State} {o : Nat} (h : o < s.params.bufSize) :
    readByte s o = .ok (Memory.read s.buf o) := by simp [readByte, h]

theorem readRegister_of_ne {α : Type} {s : State} (h : s.phase ≠ .idle) (r : Register) (a : α) :
    readRegister s r a = .ok a := by simp [readRegister, h]

theorem readRegister_of_idle {α : Type} {s : State} (h : s.phase = .idle) (r : Register) (a : α) :
    readRegister s r a = .error (.unwrittenRegister r) := by simp [readRegister, h]

/-- The record's fields that do not depend on the mode (R115). -/
@[simp] theorem makeRecord_length (p : Params) (c : Nat) (l : Addr) (b0 b1 b2 : Byte) :
    (makeRecord p c l b0 b1 b2).length = 1 + (lookup p.rom b0).mode.operandBytes := rfl
@[simp] theorem makeRecord_address (p : Params) (c : Nat) (l : Addr) (b0 b1 b2 : Byte) :
    (makeRecord p c l b0 b1 b2).address = recordAddress c l := rfl
@[simp] theorem makeRecord_rawBytes (p : Params) (c : Nat) (l : Addr) (b0 b1 b2 : Byte) :
    (makeRecord p c l b0 b1 b2).rawBytes = [b0, b1, b2].take (1 + (lookup p.rom b0).mode.operandBytes) := rfl

/-- A record does not depend on bytes that its mode does not read (R146, R117). -/
theorem makeRecord_congr {p : Params} {c : Nat} {l : Addr} {b0 b1 b2 x1 x2 : Byte}
    (h1 : 1 ≤ (lookup p.rom b0).mode.operandBytes → b1 = x1) (h2 : (lookup p.rom b0).mode.operandBytes = 2 → b2 = x2) :
    makeRecord p c l b0 b1 b2 = makeRecord p c l b0 x1 x2 := by
  cases hm : (lookup p.rom b0).mode <;> rw [hm] at h1 h2 <;>
    simp_all [makeRecord, formatOperand, Mode.operandBytes, Mode.format, Format.operandBytes]

/-- The operand bytes of a decode step of `n` operand bytes: those that the instruction carries, then the buffer's. There
they are where the instruction carries enough of them or the buffer is long enough. -/
theorem operandByte_ok {s : State} {c n : Nat} {carried : List Byte} (hn : n ≤ 2)
    (h : n ≤ carried.length ∨ c + 1 + n ≤ s.params.bufSize) :
    ∃ b1 b2, operandByte s c n carried 1 = .ok b1 ∧ operandByte s c n carried 2 = .ok b2 ∧
      (1 ≤ n → b1 = carried.getD 0 (Memory.read s.buf (c + 1))) ∧
      (n = 2 → b2 = carried.getD 1 (Memory.read s.buf (c + 2))) := by
  interval_cases n <;> rcases carried with _ | ⟨a, _ | ⟨b, l⟩⟩ <;>
    simp [operandByte, readByte] at h ⊢ <;> grind

/-- A decode step gets its operand bytes only there. -/
theorem le_of_operandByte_ok {s : State} {c n : Nat} {carried : List Byte} {b1 b2 : Byte} (hn : n ≤ 2)
    (h1 : operandByte s c n carried 1 = .ok b1) (h2 : operandByte s c n carried 2 = .ok b2) :
    n ≤ carried.length ∨ c + 1 + n ≤ s.params.bufSize := by
  interval_cases n <;> rcases carried with _ | ⟨a, _ | ⟨b, l⟩⟩ <;>
    simp [operandByte, readByte] at h1 h2 ⊢ <;> grind

/-- The state after a decode step: the record of these bytes emitted, the cursor moved past them. -/
def afterDecode (b0 b1 b2 : Byte) (s : State) : State :=
  setCursor (s.cursor + 1 + (lookup s.params.rom b0).mode.operandBytes)
    (emit (makeRecord s.params s.cursor s.load b0 b1 b2) s)

section
variable (b0 b1 b2 : Byte) (s : State)

@[simp] theorem afterDecode_cursor :
    (afterDecode b0 b1 b2 s).cursor = s.cursor + 1 + (lookup s.params.rom b0).mode.operandBytes := rfl
@[simp] theorem afterDecode_out :
    (afterDecode b0 b1 b2 s).out = s.out ++ [makeRecord s.params s.cursor s.load b0 b1 b2] := rfl
@[simp] theorem afterDecode_phase : (afterDecode b0 b1 b2 s).phase = s.phase := rfl
@[simp] theorem afterDecode_dataEnd : (afterDecode b0 b1 b2 s).dataEnd = s.dataEnd := rfl
@[simp] theorem afterDecode_load : (afterDecode b0 b1 b2 s).load = s.load := rfl
@[simp] theorem afterDecode_buf : (afterDecode b0 b1 b2 s).buf = s.buf := rfl
@[simp] theorem afterDecode_params : (afterDecode b0 b1 b2 s).params = s.params := rfl
@[simp] theorem afterDecode_hostMoves : (afterDecode b0 b1 b2 s).hostMoves = s.hostMoves := rfl
@[simp] theorem afterDecode_reply : (afterDecode b0 b1 b2 s).reply = s.reply := rfl
@[simp] theorem afterDecode_reqStart : (afterDecode b0 b1 b2 s).reqStart = s.reqStart := rfl

end

/-- The room that a decode step needs: what the instruction carries, or the buffer's bytes. -/
abbrev HasOperands (b0 : Byte) (carried : List Byte) (s : State) : Prop :=
  (lookup s.params.rom b0).mode.operandBytes ≤ carried.length ∨
    s.cursor + 1 + (lookup s.params.rom b0).mode.operandBytes ≤ s.params.bufSize

/-- What a decode step does where the block decodes (R114). -/
theorem decodeStep_of_decoding {s : State} (hb : s.phase = .busy) (hc : s.cursor < s.dataEnd) {b0 : Byte}
    {carried : List Byte} (h : HasOperands b0 carried s) :
    decodeStep b0 carried s =
      .next (afterDecode b0 (carried.getD 0 (Memory.read s.buf (s.cursor + 1)))
        (carried.getD 1 (Memory.read s.buf (s.cursor + 2))) s) := by
  obtain ⟨b1, b2, h1, h2, e1, e2⟩ := operandByte_ok (operandBytes_le _) h
  simp only [decodeStep, readCursor, readDataEnd, readLoad, readRegister, hb, hc, reduceCtorEq, if_false, orFault_ok,
    and_self, if_true, h1, h2, afterDecode, makeRecord_congr e1 e2]

/-- A decode step answers a next state only where the block decodes and the operand bytes are there, and then this one. -/
theorem decodeStep_next_iff {s t : State} {b0 : Byte} {carried : List Byte} :
    decodeStep b0 carried s = .next t ↔
      s.phase = .busy ∧ s.cursor < s.dataEnd ∧ HasOperands b0 carried s ∧
        t = afterDecode b0 (carried.getD 0 (Memory.read s.buf (s.cursor + 1)))
          (carried.getD 1 (Memory.read s.buf (s.cursor + 2))) s := by
  constructor
  · intro h
    by_cases hi : s.phase = .idle
    · simp [decodeStep, readCursor, readRegister_of_idle hi] at h
    · by_cases hd : s.phase = .busy ∧ s.cursor < s.dataEnd
      · have ho : HasOperands b0 carried s := by
          simp only [decodeStep, readCursor, readDataEnd, readLoad, readRegister_of_ne hi, orFault_ok, if_pos hd] at h
          cases h1 : operandByte s s.cursor (lookup s.params.rom b0).mode.operandBytes carried 1 with
          | error e => simp [h1] at h
          | ok b1 =>
            cases h2 : operandByte s s.cursor (lookup s.params.rom b0).mode.operandBytes carried 2 with
            | error e => simp [h1, h2] at h
            | ok b2 => exact le_of_operandByte_ok (operandBytes_le _) h1 h2
        rw [decodeStep_of_decoding hd.1 hd.2 ho] at h
        exact ⟨hd.1, hd.2, ho, by injection h with h; exact h.symm⟩
      · simp [decodeStep, readCursor, readDataEnd, readLoad, readRegister_of_ne hi, hd] at h
  · rintro ⟨hb, hc, ho, rfl⟩
    exact decodeStep_of_decoding hb hc ho

/-- Every instruction's meaning is the decode step of its bytes. -/
theorem exec_eq_decodeStep (i : Instr) (s : State) : exec i s = decodeStep (i.byte 0) (encode i).tail s := by
  cases i <;> rfl

/-- An instruction of the state's ROM carries its operand bytes, so its meaning needs no room in the buffer. -/
theorem exec_of_decoding {i : Instr} {s : State} (hb : s.phase = .busy) (hc : s.cursor < s.dataEnd)
    (hn : (encode i).length = 1 + (lookup s.params.rom (i.byte 0)).mode.operandBytes) :
    exec i s = .next (afterDecode (i.byte 0) (i.byte 1) (i.byte 2) s) := by
  have hl : (lookup s.params.rom (i.byte 0)).mode.operandBytes ≤ (encode i).tail.length := by
    rw [List.length_tail]; omega
  rw [exec_eq_decodeStep, decodeStep_of_decoding hb hc (.inl hl)]
  unfold afterDecode
  rw [List.length_tail] at hl
  have e : ∀ k x, k + 1 < (encode i).length → (encode i).tail.getD k x = i.byte (k + 1) := by
    intro k x hk
    simp [Instr.byte, List.getD_eq_getElem?_getD, hk]
  rw [makeRecord_congr (fun h => e 0 _ (by omega)) fun h => e 1 _ (by omega)]

/-- The protected range does not depend on the coming moves. -/
@[simp] theorem isProtected_dropMove (s : State) (o : Nat) : isProtected (dropMove s) o = isProtected s o := rfl

theorem isProtected_eq_true {s : State} {o : Nat} :
    isProtected s o = true ↔ s.phase = .busy ∧ s.reqStart ≤ o ∧ o < s.dataEnd + 2 := by simp [isProtected]

theorem isProtected_eq_false {s : State} {o : Nat} :
    isProtected s o = false ↔ ¬(s.phase = .busy ∧ s.reqStart ≤ o ∧ o < s.dataEnd + 2) := by
  rw [← isProtected_eq_true, Bool.not_eq_true]

/-- A Start is accepted where the block is not Busy and the data and its pad fit (R111). -/
theorem startRefusal_eq_none {r : Request} {s : State} :
    startRefusal r s = none ↔ s.phase ≠ .busy ∧ r.start + r.len + Config.pad ≤ s.params.bufSize := by
  unfold startRefusal
  split
  · simp_all
  · split <;> simp_all

/-- What a Start does: accepted or refused. -/
theorem startCommand_cases (r : Request) (s : State) :
    (s.phase ≠ .busy ∧ r.start + r.len + Config.pad ≤ s.params.bufSize ∧ startCommand r s = acceptStart r s) ∨
      ∃ code, startRefusal r s = some code ∧ startCommand r s = refuseStart code s := by
  cases h : startRefusal r s with
  | none => exact .inl ⟨(startRefusal_eq_none.1 h).1, (startRefusal_eq_none.1 h).2, by simp [startCommand, h]⟩
  | some code => exact .inr ⟨code, rfl, by simp [startCommand, h]⟩

end Sys2Proof.Machine
end

