-- ==== Sys2Proof/Laws/Step.lean ====
section
/-! SUPPORT. What a step can do, said once: the fetch, the block's step in each phase, and the step by the host's move. -/

namespace Sys2Proof.Machine

/-- A fetch inside the buffer reads the opcode byte and as many operand bytes as its mode needs (R114). -/
theorem fetch_of_le {s : State} {c : Nat}
    (h : c + 1 + (lookup s.params.rom (Memory.read s.buf c)).mode.operandBytes ≤ s.params.bufSize) :
    fetch s c = .ok ([Memory.read s.buf c, Memory.read s.buf (c + 1), Memory.read s.buf (c + 2)].take
      (1 + (lookup s.params.rom (Memory.read s.buf c)).mode.operandBytes)) := by
  have h0 : c < s.params.bufSize := by omega
  unfold fetch
  rw [readByte_of_lt h0]
  cases hf : (lookup s.params.rom (Memory.read s.buf c)).mode.format <;>
    simp only [Mode.operandBytes, hf, Format.operandBytes] at h ⊢
  · rfl
  · rw [readByte_of_lt (show c + 1 < s.params.bufSize by omega)]; rfl
  · rw [readByte_of_lt (show c + 1 < s.params.bufSize by omega),
      readByte_of_lt (show c + 2 < s.params.bufSize by omega)]; rfl

/-- Running the bytes that stand at the cursor, as many as the ROM says, is the decode step of those bytes. -/
theorem runBytes_of_decoding {s : State} (hb : s.phase = .busy) (hc : s.cursor < s.dataEnd)
    (h : s.cursor + 1 + (lookup s.params.rom (Memory.read s.buf s.cursor)).mode.operandBytes ≤ s.params.bufSize) :
    runBytes ([Memory.read s.buf s.cursor, Memory.read s.buf (s.cursor + 1), Memory.read s.buf (s.cursor + 2)].take
      (1 + (lookup s.params.rom (Memory.read s.buf s.cursor)).mode.operandBytes)) s =
      .next (afterDecode (Memory.read s.buf s.cursor) (Memory.read s.buf (s.cursor + 1))
        (Memory.read s.buf (s.cursor + 2)) s) := by
  have hm := operandBytes_le (lookup defaultRom (Memory.read s.buf s.cursor)).mode
  have hn := operandBytes_le (lookup s.params.rom (Memory.read s.buf s.cursor)).mode
  unfold runBytes
  rw [exec_eq_decodeStep, byte_zero_instrOf, encode_instrOf]
  have h0 : ∀ n (a b c : Byte), ([a, b, c].take (1 + n)).getD 0 0 = a := fun n a b c => by simp [Nat.add_comm 1]
  rw [h0, decodeStep_of_decoding hb hc (.inr h)]
  unfold afterDecode
  rw [makeRecord_congr (fun h1 => ?_) fun h2 => ?_]
  · generalize (lookup s.params.rom (Memory.read s.buf s.cursor)).mode.operandBytes = n at *
    generalize (lookup defaultRom (Memory.read s.buf s.cursor)).mode.operandBytes = m at *
    interval_cases n <;> interval_cases m <;> simp
  · rw [h2]
    generalize (lookup defaultRom (Memory.read s.buf s.cursor)).mode.operandBytes = m at *
    interval_cases m <;> simp

/-- A record has one to three bytes (R64, R117). -/
theorem recordAt_length (p : Params) (m : Memory) (l : Addr) (c : Nat) :
    1 ≤ (recordAt p m l c).length ∧ (recordAt p m l c).length ≤ 3 ∧
      (recordAt p m l c).rawBytes.length = (recordAt p m l c).length := by
  have := operandBytes_le (lookup p.rom (Memory.read m c)).mode
  simp only [recordAt, makeRecord_length, makeRecord_rawBytes, List.length_take, List.length_cons, List.length_nil]
  omega

/-- The block's step where it decodes, inside the buffer: the record of the bytes at the cursor (R114). -/
theorem blockStep_of_decoding {s : State} (hd : s.Decoding)
    (h : s.cursor + (recordAt s.params s.buf s.load s.cursor).length ≤ s.params.bufSize) :
    blockStep s =
      .next (setCursor (s.cursor + (recordAt s.params s.buf s.load s.cursor).length)
        (emit (recordAt s.params s.buf s.load s.cursor) s)) := by
  have hi : s.phase ≠ .idle := by simp [hd.1]
  simp only [recordAt, makeRecord_length, ← Nat.add_assoc] at h ⊢
  simp only [blockStep, hd.1, readCursor, readDataEnd, readRegister_of_ne hi, orFault_ok, if_pos hd.2, fetch_of_le h,
    runBytes_of_decoding hd.1 hd.2 h, afterDecode]

theorem blockStep_of_end {s : State} (hb : s.phase = .busy) (hc : s.dataEnd ≤ s.cursor) :
    blockStep s = .next (finish s) := by
  have hi : s.phase ≠ .idle := by simp [hb]
  simp only [blockStep, hb, readCursor, readDataEnd, readRegister_of_ne hi, orFault_ok, if_neg (Nat.not_lt.2 hc)]

theorem blockStep_of_not_busy {s : State} (hb : s.phase ≠ .busy) : blockStep s = .next s := by
  unfold blockStep
  cases hp : s.phase <;> simp_all

/-- Where a block step of the decoding kind answers, the cursor was inside the buffer. -/
theorem fetch_ok_le {s : State} {c : Nat} {bytes : List Byte} (h : fetch s c = .ok bytes) :
    c + 1 + (lookup s.params.rom (Memory.read s.buf c)).mode.operandBytes ≤ s.params.bufSize := by
  have byte_in : ∀ {o : Nat} {b : Byte}, readByte s o = .ok b → o < s.params.bufSize ∧ b = Memory.read s.buf o := by
    intro o b hr
    unfold readByte at hr
    split at hr
    · next ho => exact ⟨ho, by injection hr with hr; exact hr.symm⟩
    · cases hr
  unfold fetch at h
  split at h
  · cases h
  · next b0 hr0 =>
    obtain ⟨h0, rfl⟩ := byte_in hr0
    cases hf : (lookup s.params.rom (Memory.read s.buf c)).mode.format <;> rw [hf] at h <;>
      simp only [Mode.operandBytes, hf, Format.operandBytes]
    · omega
    · cases hr1 : readByte s (c + 1) with
      | error e => simp [hr1] at h
      | ok b1 => have := (byte_in hr1).1; omega
    · cases hr1 : readByte s (c + 1) with
      | error e => simp [hr1] at h
      | ok b1 =>
        cases hr2 : readByte s (c + 2) with
        | error e => simp [hr1, hr2] at h
        | ok b2 => have := (byte_in hr2).1; omega

/-- What the block's own step can do: decode, finish, or nothing. -/
theorem blockStep_next {s t : State} (h : blockStep s = .next t) :
    (s.Decoding ∧ s.cursor + (recordAt s.params s.buf s.load s.cursor).length ≤ s.params.bufSize ∧
      t = setCursor (s.cursor + (recordAt s.params s.buf s.load s.cursor).length)
        (emit (recordAt s.params s.buf s.load s.cursor) s)) ∨
    (s.phase = .busy ∧ s.dataEnd ≤ s.cursor ∧ t = finish s) ∨
    (s.phase ≠ .busy ∧ t = s) := by
  by_cases hb : s.phase = .busy
  · by_cases hc : s.cursor < s.dataEnd
    · refine .inl ⟨⟨hb, hc⟩, ?_⟩
      have hle : s.cursor + (recordAt s.params s.buf s.load s.cursor).length ≤ s.params.bufSize := by
        have hi : s.phase ≠ .idle := by simp [hb]
        simp only [blockStep, hb, readCursor, readDataEnd, readRegister_of_ne hi, orFault_ok, if_pos hc] at h
        cases hfe : fetch s s.cursor with
        | error e => simp [hfe] at h
        | ok bytes =>
          have := fetch_ok_le hfe
          simp only [recordAt, makeRecord_length]
          omega
      rw [blockStep_of_decoding ⟨hb, hc⟩ hle] at h
      exact ⟨hle, by injection h with h; exact h.symm⟩
    · rw [blockStep_of_end hb (Nat.not_lt.1 hc)] at h
      exact .inr (.inl ⟨hb, Nat.not_lt.1 hc, by injection h with h; exact h.symm⟩)
  · rw [blockStep_of_not_busy hb] at h
    exact .inr (.inr ⟨hb, by injection h with h; exact h.symm⟩)

/-- What a write of the host can do. -/
theorem hostWrite_next {s t : State} {o : Nat} {v : Byte} (h : hostWrite o v s = .next t) :
    o < s.params.bufSize ∧ isProtected s o = false ∧ t = { s with buf := Memory.write s.buf o v } := by
  unfold hostWrite at h
  split at h
  · cases h
  · split at h
    · cases h
    · next h1 h2 => exact ⟨by omega, by simpa using h2, by injection h with h; exact h.symm⟩

theorem hostWrite_of_dutiful {s : State} {o : Nat} (v : Byte) (h : o < s.params.bufSize)
    (hp : isProtected s o = false) : hostWrite o v s = .next { s with buf := Memory.write s.buf o v } := by
  simp [hostWrite, Nat.not_le.2 h, hp]

/-- What a step can do, by the host's move in it. -/
theorem step_next {s t : State} (h : step s = .next t) :
    ((s.hostMoves = [] ∨ ∃ more, s.hostMoves = .pass :: more) ∧ blockStep (dropMove s) = .next t) ∨
    (∃ r more, s.hostMoves = .start r :: more ∧ t = startCommand r (dropMove s)) ∨
    ((∃ more, s.hostMoves = .reset :: more ∨ ∃ r, s.hostMoves = .resetAndStart r :: more) ∧
      t = resetBlock (dropMove s)) ∨
    (∃ o v more, s.hostMoves = .write o v :: more ∧ hostWrite o v (dropMove s) = .next t) := by
  unfold step stepOf at h
  split at h
  · next hm => exact .inl ⟨.inl hm, by rwa [dropMove_of_nil s hm]⟩
  · next more hm => exact .inl ⟨.inr ⟨more, hm⟩, h⟩
  · next r more hm => exact .inr (.inl ⟨r, more, hm, by injection h with h; exact h.symm⟩)
  · next more hm => exact .inr (.inr (.inl ⟨⟨more, .inl hm⟩, by injection h with h; exact h.symm⟩))
  · next r more hm => exact .inr (.inr (.inl ⟨⟨more, .inr ⟨r, hm⟩⟩, by injection h with h; exact h.symm⟩))
  · next o v more hm => exact .inr (.inr (.inr ⟨o, v, more, hm, h⟩))

/-- A run takes its first step, then the rest. -/
theorem run_succ_of_next {s t : State} (h : step s = .next t) (k : Nat) : run (k + 1) s = run k t := by simp [run, h]

/-- Where the host presents nothing, the step is the block's. -/
theorem step_of_quiet {s : State} (h : s.hostMoves = []) : step s = blockStep s := by
  simp [step, stepOf, h]

end Sys2Proof.Machine
end

