-- ==== Sys2Proof/Tests/Slice0.lean ====
section
/-! SUPPORT. Tests. The expected results stand in the spec: the words of spec/opcode_table.json and of
spec/30_encoding.md R61 and R67 for decoding, spec/95_test_vectors.md for the records. At the end, for every obligation
with hypotheses a state and operands that meet them. -/

namespace Sys2Proof.Tests

open Machine

/-! ### Helpers -/

/-- The bytes from an offset on, as a buffer. -/
def place : Nat → List Byte → Memory
  | _, [] => []
  | o, b :: bs => Memory.put o b (place (o + 1) bs)

/-- A block in phase Idle whose buffer holds exactly these bytes, and a host with these coming moves. -/
def waiting (bytes : List Byte) (moves : List HostMove) : State :=
  { State.reset with
    buf := place 0 bytes, params := { Config.resetParams with bufSize := bytes.length }, hostMoves := moves }

/-- The same block right after it has accepted a request, the host presenting nothing. -/
def running (bytes : List Byte) (load : Addr) (start len : Nat) : State :=
  { waiting bytes [] with
    phase := .busy, cursor := start, dataEnd := start + len, load := load, reply := some .accepted, reqStart := start }

/-- The last record emitted, where the outcome is a next state. -/
def lastRecord : Result → Option Record
  | .next t => t.out.getLast?
  | .fault _ => none
  | .refused _ => none

/-- Phase, cursor and reply, where the outcome is a next state. -/
def control : Result → Option (Phase × Nat × Option StartReply)
  | .next t => some (t.phase, t.cursor, t.reply)
  | .fault _ => none
  | .refused _ => none

def faultOf : Result → Option Fault
  | .next _ => none
  | .fault e => some e
  | .refused _ => none

def refusalOf : Result → Option Refusal
  | .next _ => none
  | .fault _ => none
  | .refused e => some e

/-- The line of the record that one step emits for these bytes and two zero pad bytes, loaded at $C000 (the set-up of
spec/95_test_vectors.md L2.1). -/
def lineOf (bytes : List Byte) : Option Text :=
  (lastRecord (step (running (bytes ++ [0, 0]) 0xC000 0 bytes.length))).map Record.lineText

/-- The numeric results of the same record. -/
def valuesOf (bytes : List Byte) : Option (Option OperandValue × Option Int × Option Addr) :=
  (lastRecord (step (running (bytes ++ [0, 0]) 0xC000 0 bytes.length))).map fun r =>
    (r.operandValue, r.displacement, r.target)

/-- Address and line of the record that one step emits at `start` of the buffer, and the cursor after it. -/
def shows (bytes : List Byte) (load : Addr) (start len : Nat) : Option (Addr × String × Nat) :=
  match step (running bytes load start len) with
  | .next t => t.out.getLast?.map fun r => (r.address, String.ofList r.lineText, t.cursor)
  | .fault _ => none
  | .refused _ => none

/-! ### WellFormed: an ill-formed term for each check, which the check refuses -/

theorem test_wf_entry_good : (⟨['L', 'D', 'A'], .immediate, false⟩ : OpcodeEntry).wellFormed = true := by decide
theorem test_wf_entry_length : (⟨['L', 'D'], .immediate, false⟩ : OpcodeEntry).wellFormed = false := by decide
theorem test_wf_entry_lower_documented : (⟨['l', 'd', 'a'], .immediate, false⟩ : OpcodeEntry).wellFormed = false := by decide
theorem test_wf_entry_upper_illegal : (⟨['S', 'L', 'O'], .zeroPage, true⟩ : OpcodeEntry).wellFormed = false := by decide
theorem test_wf_entry_digit : (⟨['L', 'D', '1'], .immediate, false⟩ : OpcodeEntry).wellFormed = false := by decide
theorem test_wf_params_good : Config.resetParams.wellFormed = true := by decide +kernel
theorem test_wf_params_size : ({ Config.resetParams with bufSize := 256, offsetBits := 8 } : Params).sizeFits = false := by
  decide
theorem test_wf_params_unknown_name :
    ({ Config.resetParams with illegalMnemonics := [(['l', 'd', 'a'], ['x', 'x', 'x'])] } : Params).spellingsFit = false := by
  decide
theorem test_wf_params_spelling_length :
    ({ Config.resetParams with illegalMnemonics := [(['k', 'i', 'l'], ['j', 'a'])] } : Params).spellingsFit = false := by
  decide
theorem test_wf_params_spelling_case :
    ({ Config.resetParams with illegalMnemonics := [(['k', 'i', 'l'], ['J', 'A', 'M'])] } : Params).spellingsFit = false := by
  decide
/-- A ROM entry of two letters. -/
def shortEntry : OpcodeEntry := ⟨['l', 'd'], .implied, true⟩

theorem test_wf_params_rom :
    ({ Config.resetParams with rom := Vector.replicate 16 (Vector.replicate 16 shortEntry) } : Params).romFits =
      false := by decide +kernel
theorem test_wf_params_whole :
    ({ Config.resetParams with bufSize := 256, offsetBits := 8 } : Params).wellFormed = false ∧
    ({ Config.resetParams with illegalMnemonics := [(['k', 'i', 'l'], ['J', 'A', 'M'])] } : Params).wellFormed = false ∧
    ({ Config.resetParams with rom := Vector.replicate 16 (Vector.replicate 16 shortEntry) } : Params).wellFormed =
      false := by decide +kernel
theorem test_wf_ascii : isAscii "BPL $0000 (-2)".toList = true ∧ isAscii ['B', Char.ofNat 128] = false := by decide
theorem test_wf_request_start :
    (⟨0, 131072, 0⟩ : Request).wellFormed Config.resetParams = false ∧
    (⟨0, 131071, 0⟩ : Request).wellFormed Config.resetParams = true := by decide
theorem test_wf_request_len :
    (⟨0, 0, 131072⟩ : Request).wellFormed Config.resetParams = false ∧
    (⟨0, 0, 131071⟩ : Request).wellFormed Config.resetParams = true := by decide

/-! ### Decoding: every row's opcode byte (spec/opcode_table.json), with operand bytes 34 and 12 (R61, low byte first) -/

theorem test_decode_row_0 :
    decodeTableWord 8 0x00 = some .brkImp ∧
    decodeTableWord 16 0x3401 = some (.oraIzx 0x34) ∧
    decodeTableWord 8 0x02 = some .xKilImp02 ∧
    decodeTableWord 16 0x3403 = some (.xSloIzx 0x34) ∧
    decodeTableWord 16 0x3404 = some (.xNopZp04 0x34) ∧
    decodeTableWord 16 0x3405 = some (.oraZp 0x34) ∧
    decodeTableWord 16 0x3406 = some (.aslZp 0x34) ∧
    decodeTableWord 16 0x3407 = some (.xSloZp 0x34) ∧
    decodeTableWord 8 0x08 = some .phpImp ∧
    decodeTableWord 16 0x3409 = some (.oraImm 0x34) ∧
    decodeTableWord 8 0x0A = some .aslAcc ∧
    decodeTableWord 16 0x340B = some (.xAncImm0B 0x34) ∧
    decodeTableWord 24 0x12340C = some (.xNopAbs 0x34 0x12) ∧
    decodeTableWord 24 0x12340D = some (.oraAbs 0x34 0x12) ∧
    decodeTableWord 24 0x12340E = some (.aslAbs 0x34 0x12) ∧
    decodeTableWord 24 0x12340F = some (.xSloAbs 0x34 0x12) := by
  decide

theorem test_decode_row_1 :
    decodeTableWord 16 0x3410 = some (.bplRel 0x34) ∧
    decodeTableWord 16 0x3411 = some (.oraIzy 0x34) ∧
    decodeTableWord 8 0x12 = some .xKilImp12 ∧
    decodeTableWord 16 0x3413 = some (.xSloIzy 0x34) ∧
    decodeTableWord 16 0x3414 = some (.xNopZpx14 0x34) ∧
    decodeTableWord 16 0x3415 = some (.oraZpx 0x34) ∧
    decodeTableWord 16 0x3416 = some (.aslZpx 0x34) ∧
    decodeTableWord 16 0x3417 = some (.xSloZpx 0x34) ∧
    decodeTableWord 8 0x18 = some .clcImp ∧
    decodeTableWord 24 0x123419 = some (.oraAby 0x34 0x12) ∧
    decodeTableWord 8 0x1A = some .xNopImp1A ∧
    decodeTableWord 24 0x12341B = some (.xSloAby 0x34 0x12) ∧
    decodeTableWord 24 0x12341C = some (.xNopAbx1C 0x34 0x12) ∧
    decodeTableWord 24 0x12341D = some (.oraAbx 0x34 0x12) ∧
    decodeTableWord 24 0x12341E = some (.aslAbx 0x34 0x12) ∧
    decodeTableWord 24 0x12341F = some (.xSloAbx 0x34 0x12) := by
  decide

theorem test_decode_row_2 :
    decodeTableWord 24 0x123420 = some (.jsrAbs 0x34 0x12) ∧
    decodeTableWord 16 0x3421 = some (.andIzx 0x34) ∧
    decodeTableWord 8 0x22 = some .xKilImp22 ∧
    decodeTableWord 16 0x3423 = some (.xRlaIzx 0x34) ∧
    decodeTableWord 16 0x3424 = some (.bitZp 0x34) ∧
    decodeTableWord 16 0x3425 = some (.andZp 0x34) ∧
    decodeTableWord 16 0x3426 = some (.rolZp 0x34) ∧
    decodeTableWord 16 0x3427 = some (.xRlaZp 0x34) ∧
    decodeTableWord 8 0x28 = some .plpImp ∧
    decodeTableWord 16 0x3429 = some (.andImm 0x34) ∧
    decodeTableWord 8 0x2A = some .rolAcc ∧
    decodeTableWord 16 0x342B = some (.xAncImm2B 0x34) ∧
    decodeTableWord 24 0x12342C = some (.bitAbs 0x34 0x12) ∧
    decodeTableWord 24 0x12342D = some (.andAbs 0x34 0x12) ∧
    decodeTableWord 24 0x12342E = some (.rolAbs 0x34 0x12) ∧
    decodeTableWord 24 0x12342F = some (.xRlaAbs 0x34 0x12) := by
  decide

theorem test_decode_row_3 :
    decodeTableWord 16 0x3430 = some (.bmiRel 0x34) ∧
    decodeTableWord 16 0x3431 = some (.andIzy 0x34) ∧
    decodeTableWord 8 0x32 = some .xKilImp32 ∧
    decodeTableWord 16 0x3433 = some (.xRlaIzy 0x34) ∧
    decodeTableWord 16 0x3434 = some (.xNopZpx34 0x34) ∧
    decodeTableWord 16 0x3435 = some (.andZpx 0x34) ∧
    decodeTableWord 16 0x3436 = some (.rolZpx 0x34) ∧
    decodeTableWord 16 0x3437 = some (.xRlaZpx 0x34) ∧
    decodeTableWord 8 0x38 = some .secImp ∧
    decodeTableWord 24 0x123439 = some (.andAby 0x34 0x12) ∧
    decodeTableWord 8 0x3A = some .xNopImp3A ∧
    decodeTableWord 24 0x12343B = some (.xRlaAby 0x34 0x12) ∧
    decodeTableWord 24 0x12343C = some (.xNopAbx3C 0x34 0x12) ∧
    decodeTableWord 24 0x12343D = some (.andAbx 0x34 0x12) ∧
    decodeTableWord 24 0x12343E = some (.rolAbx 0x34 0x12) ∧
    decodeTableWord 24 0x12343F = some (.xRlaAbx 0x34 0x12) := by
  decide

theorem test_decode_row_4 :
    decodeTableWord 8 0x40 = some .rtiImp ∧
    decodeTableWord 16 0x3441 = some (.eorIzx 0x34) ∧
    decodeTableWord 8 0x42 = some .xKilImp42 ∧
    decodeTableWord 16 0x3443 = some (.xSreIzx 0x34) ∧
    decodeTableWord 16 0x3444 = some (.xNopZp44 0x34) ∧
    decodeTableWord 16 0x3445 = some (.eorZp 0x34) ∧
    decodeTableWord 16 0x3446 = some (.lsrZp 0x34) ∧
    decodeTableWord 16 0x3447 = some (.xSreZp 0x34) ∧
    decodeTableWord 8 0x48 = some .phaImp ∧
    decodeTableWord 16 0x3449 = some (.eorImm 0x34) ∧
    decodeTableWord 8 0x4A = some .lsrAcc ∧
    decodeTableWord 16 0x344B = some (.xAlrImm 0x34) ∧
    decodeTableWord 24 0x12344C = some (.jmpAbs 0x34 0x12) ∧
    decodeTableWord 24 0x12344D = some (.eorAbs 0x34 0x12) ∧
    decodeTableWord 24 0x12344E = some (.lsrAbs 0x34 0x12) ∧
    decodeTableWord 24 0x12344F = some (.xSreAbs 0x34 0x12) := by
  decide

theorem test_decode_row_5 :
    decodeTableWord 16 0x3450 = some (.bvcRel 0x34) ∧
    decodeTableWord 16 0x3451 = some (.eorIzy 0x34) ∧
    decodeTableWord 8 0x52 = some .xKilImp52 ∧
    decodeTableWord 16 0x3453 = some (.xSreIzy 0x34) ∧
    decodeTableWord 16 0x3454 = some (.xNopZpx54 0x34) ∧
    decodeTableWord 16 0x3455 = some (.eorZpx 0x34) ∧
    decodeTableWord 16 0x3456 = some (.lsrZpx 0x34) ∧
    decodeTableWord 16 0x3457 = some (.xSreZpx 0x34) ∧
    decodeTableWord 8 0x58 = some .cliImp ∧
    decodeTableWord 24 0x123459 = some (.eorAby 0x34 0x12) ∧
    decodeTableWord 8 0x5A = some .xNopImp5A ∧
    decodeTableWord 24 0x12345B = some (.xSreAby 0x34 0x12) ∧
    decodeTableWord 24 0x12345C = some (.xNopAbx5C 0x34 0x12) ∧
    decodeTableWord 24 0x12345D = some (.eorAbx 0x34 0x12) ∧
    decodeTableWord 24 0x12345E = some (.lsrAbx 0x34 0x12) ∧
    decodeTableWord 24 0x12345F = some (.xSreAbx 0x34 0x12) := by
  decide

theorem test_decode_row_6 :
    decodeTableWord 8 0x60 = some .rtsImp ∧
    decodeTableWord 16 0x3461 = some (.adcIzx 0x34) ∧
    decodeTableWord 8 0x62 = some .xKilImp62 ∧
    decodeTableWord 16 0x3463 = some (.xRraIzx 0x34) ∧
    decodeTableWord 16 0x3464 = some (.xNopZp64 0x34) ∧
    decodeTableWord 16 0x3465 = some (.adcZp 0x34) ∧
    decodeTableWord 16 0x3466 = some (.rorZp 0x34) ∧
    decodeTableWord 16 0x3467 = some (.xRraZp 0x34) ∧
    decodeTableWord 8 0x68 = some .plaImp ∧
    decodeTableWord 16 0x3469 = some (.adcImm 0x34) ∧
    decodeTableWord 8 0x6A = some .rorAcc ∧
    decodeTableWord 16 0x346B = some (.xArrImm 0x34) ∧
    decodeTableWord 24 0x12346C = some (.jmpInd 0x34 0x12) ∧
    decodeTableWord 24 0x12346D = some (.adcAbs 0x34 0x12) ∧
    decodeTableWord 24 0x12346E = some (.rorAbs 0x34 0x12) ∧
    decodeTableWord 24 0x12346F = some (.xRraAbs 0x34 0x12) := by
  decide

theorem test_decode_row_7 :
    decodeTableWord 16 0x3470 = some (.bvsRel 0x34) ∧
    decodeTableWord 16 0x3471 = some (.adcIzy 0x34) ∧
    decodeTableWord 8 0x72 = some .xKilImp72 ∧
    decodeTableWord 16 0x3473 = some (.xRraIzy 0x34) ∧
    decodeTableWord 16 0x3474 = some (.xNopZpx74 0x34) ∧
    decodeTableWord 16 0x3475 = some (.adcZpx 0x34) ∧
    decodeTableWord 16 0x3476 = some (.rorZpx 0x34) ∧
    decodeTableWord 16 0x3477 = some (.xRraZpx 0x34) ∧
    decodeTableWord 8 0x78 = some .seiImp ∧
    decodeTableWord 24 0x123479 = some (.adcAby 0x34 0x12) ∧
    decodeTableWord 8 0x7A = some .xNopImp7A ∧
    decodeTableWord 24 0x12347B = some (.xRraAby 0x34 0x12) ∧
    decodeTableWord 24 0x12347C = some (.xNopAbx7C 0x34 0x12) ∧
    decodeTableWord 24 0x12347D = some (.adcAbx 0x34 0x12) ∧
    decodeTableWord 24 0x12347E = some (.rorAbx 0x34 0x12) ∧
    decodeTableWord 24 0x12347F = some (.xRraAbx 0x34 0x12) := by
  decide

theorem test_decode_row_8 :
    decodeTableWord 16 0x3480 = some (.xNopImm80 0x34) ∧
    decodeTableWord 16 0x3481 = some (.staIzx 0x34) ∧
    decodeTableWord 16 0x3482 = some (.xNopImm82 0x34) ∧
    decodeTableWord 16 0x3483 = some (.xSaxIzx 0x34) ∧
    decodeTableWord 16 0x3484 = some (.styZp 0x34) ∧
    decodeTableWord 16 0x3485 = some (.staZp 0x34) ∧
    decodeTableWord 16 0x3486 = some (.stxZp 0x34) ∧
    decodeTableWord 16 0x3487 = some (.xSaxZp 0x34) ∧
    decodeTableWord 8 0x88 = some .deyImp ∧
    decodeTableWord 16 0x3489 = some (.xNopImm89 0x34) ∧
    decodeTableWord 8 0x8A = some .txaImp ∧
    decodeTableWord 16 0x348B = some (.xXaaImm 0x34) ∧
    decodeTableWord 24 0x12348C = some (.styAbs 0x34 0x12) ∧
    decodeTableWord 24 0x12348D = some (.staAbs 0x34 0x12) ∧
    decodeTableWord 24 0x12348E = some (.stxAbs 0x34 0x12) ∧
    decodeTableWord 24 0x12348F = some (.xSaxAbs 0x34 0x12) := by
  decide

theorem test_decode_row_9 :
    decodeTableWord 16 0x3490 = some (.bccRel 0x34) ∧
    decodeTableWord 16 0x3491 = some (.staIzy 0x34) ∧
    decodeTableWord 8 0x92 = some .xKilImp92 ∧
    decodeTableWord 16 0x3493 = some (.xAhxIzy 0x34) ∧
    decodeTableWord 16 0x3494 = some (.styZpx 0x34) ∧
    decodeTableWord 16 0x3495 = some (.staZpx 0x34) ∧
    decodeTableWord 16 0x3496 = some (.stxZpy 0x34) ∧
    decodeTableWord 16 0x3497 = some (.xSaxZpy 0x34) ∧
    decodeTableWord 8 0x98 = some .tyaImp ∧
    decodeTableWord 24 0x123499 = some (.staAby 0x34 0x12) ∧
    decodeTableWord 8 0x9A = some .txsImp ∧
    decodeTableWord 24 0x12349B = some (.xTasAby 0x34 0x12) ∧
    decodeTableWord 24 0x12349C = some (.xShyAbx 0x34 0x12) ∧
    decodeTableWord 24 0x12349D = some (.staAbx 0x34 0x12) ∧
    decodeTableWord 24 0x12349E = some (.xShxAby 0x34 0x12) ∧
    decodeTableWord 24 0x12349F = some (.xAhxAby 0x34 0x12) := by
  decide

theorem test_decode_row_A :
    decodeTableWord 16 0x34A0 = some (.ldyImm 0x34) ∧
    decodeTableWord 16 0x34A1 = some (.ldaIzx 0x34) ∧
    decodeTableWord 16 0x34A2 = some (.ldxImm 0x34) ∧
    decodeTableWord 16 0x34A3 = some (.xLaxIzx 0x34) ∧
    decodeTableWord 16 0x34A4 = some (.ldyZp 0x34) ∧
    decodeTableWord 16 0x34A5 = some (.ldaZp 0x34) ∧
    decodeTableWord 16 0x34A6 = some (.ldxZp 0x34) ∧
    decodeTableWord 16 0x34A7 = some (.xLaxZp 0x34) ∧
    decodeTableWord 8 0xA8 = some .tayImp ∧
    decodeTableWord 16 0x34A9 = some (.ldaImm 0x34) ∧
    decodeTableWord 8 0xAA = some .taxImp ∧
    decodeTableWord 16 0x34AB = some (.xLaxImm 0x34) ∧
    decodeTableWord 24 0x1234AC = some (.ldyAbs 0x34 0x12) ∧
    decodeTableWord 24 0x1234AD = some (.ldaAbs 0x34 0x12) ∧
    decodeTableWord 24 0x1234AE = some (.ldxAbs 0x34 0x12) ∧
    decodeTableWord 24 0x1234AF = some (.xLaxAbs 0x34 0x12) := by
  decide

theorem test_decode_row_B :
    decodeTableWord 16 0x34B0 = some (.bcsRel 0x34) ∧
    decodeTableWord 16 0x34B1 = some (.ldaIzy 0x34) ∧
    decodeTableWord 8 0xB2 = some .xKilImpB2 ∧
    decodeTableWord 16 0x34B3 = some (.xLaxIzy 0x34) ∧
    decodeTableWord 16 0x34B4 = some (.ldyZpx 0x34) ∧
    decodeTableWord 16 0x34B5 = some (.ldaZpx 0x34) ∧
    decodeTableWord 16 0x34B6 = some (.ldxZpy 0x34) ∧
    decodeTableWord 16 0x34B7 = some (.xLaxZpy 0x34) ∧
    decodeTableWord 8 0xB8 = some .clvImp ∧
    decodeTableWord 24 0x1234B9 = some (.ldaAby 0x34 0x12) ∧
    decodeTableWord 8 0xBA = some .tsxImp ∧
    decodeTableWord 24 0x1234BB = some (.xLasAby 0x34 0x12) ∧
    decodeTableWord 24 0x1234BC = some (.ldyAbx 0x34 0x12) ∧
    decodeTableWord 24 0x1234BD = some (.ldaAbx 0x34 0x12) ∧
    decodeTableWord 24 0x1234BE = some (.ldxAby 0x34 0x12) ∧
    decodeTableWord 24 0x1234BF = some (.xLaxAby 0x34 0x12) := by
  decide

theorem test_decode_row_C :
    decodeTableWord 16 0x34C0 = some (.cpyImm 0x34) ∧
    decodeTableWord 16 0x34C1 = some (.cmpIzx 0x34) ∧
    decodeTableWord 16 0x34C2 = some (.xNopImmC2 0x34) ∧
    decodeTableWord 16 0x34C3 = some (.xDcpIzx 0x34) ∧
    decodeTableWord 16 0x34C4 = some (.cpyZp 0x34) ∧
    decodeTableWord 16 0x34C5 = some (.cmpZp 0x34) ∧
    decodeTableWord 16 0x34C6 = some (.decZp 0x34) ∧
    decodeTableWord 16 0x34C7 = some (.xDcpZp 0x34) ∧
    decodeTableWord 8 0xC8 = some .inyImp ∧
    decodeTableWord 16 0x34C9 = some (.cmpImm 0x34) ∧
    decodeTableWord 8 0xCA = some .dexImp ∧
    decodeTableWord 16 0x34CB = some (.xAxsImm 0x34) ∧
    decodeTableWord 24 0x1234CC = some (.cpyAbs 0x34 0x12) ∧
    decodeTableWord 24 0x1234CD = some (.cmpAbs 0x34 0x12) ∧
    decodeTableWord 24 0x1234CE = some (.decAbs 0x34 0x12) ∧
    decodeTableWord 24 0x1234CF = some (.xDcpAbs 0x34 0x12) := by
  decide

theorem test_decode_row_D :
    decodeTableWord 16 0x34D0 = some (.bneRel 0x34) ∧
    decodeTableWord 16 0x34D1 = some (.cmpIzy 0x34) ∧
    decodeTableWord 8 0xD2 = some .xKilImpD2 ∧
    decodeTableWord 16 0x34D3 = some (.xDcpIzy 0x34) ∧
    decodeTableWord 16 0x34D4 = some (.xNopZpxD4 0x34) ∧
    decodeTableWord 16 0x34D5 = some (.cmpZpx 0x34) ∧
    decodeTableWord 16 0x34D6 = some (.decZpx 0x34) ∧
    decodeTableWord 16 0x34D7 = some (.xDcpZpx 0x34) ∧
    decodeTableWord 8 0xD8 = some .cldImp ∧
    decodeTableWord 24 0x1234D9 = some (.cmpAby 0x34 0x12) ∧
    decodeTableWord 8 0xDA = some .xNopImpDA ∧
    decodeTableWord 24 0x1234DB = some (.xDcpAby 0x34 0x12) ∧
    decodeTableWord 24 0x1234DC = some (.xNopAbxDC 0x34 0x12) ∧
    decodeTableWord 24 0x1234DD = some (.cmpAbx 0x34 0x12) ∧
    decodeTableWord 24 0x1234DE = some (.decAbx 0x34 0x12) ∧
    decodeTableWord 24 0x1234DF = some (.xDcpAbx 0x34 0x12) := by
  decide

theorem test_decode_row_E :
    decodeTableWord 16 0x34E0 = some (.cpxImm 0x34) ∧
    decodeTableWord 16 0x34E1 = some (.sbcIzx 0x34) ∧
    decodeTableWord 16 0x34E2 = some (.xNopImmE2 0x34) ∧
    decodeTableWord 16 0x34E3 = some (.xIscIzx 0x34) ∧
    decodeTableWord 16 0x34E4 = some (.cpxZp 0x34) ∧
    decodeTableWord 16 0x34E5 = some (.sbcZp 0x34) ∧
    decodeTableWord 16 0x34E6 = some (.incZp 0x34) ∧
    decodeTableWord 16 0x34E7 = some (.xIscZp 0x34) ∧
    decodeTableWord 8 0xE8 = some .inxImp ∧
    decodeTableWord 16 0x34E9 = some (.sbcImm 0x34) ∧
    decodeTableWord 8 0xEA = some .nopImp ∧
    decodeTableWord 16 0x34EB = some (.xSbcImm 0x34) ∧
    decodeTableWord 24 0x1234EC = some (.cpxAbs 0x34 0x12) ∧
    decodeTableWord 24 0x1234ED = some (.sbcAbs 0x34 0x12) ∧
    decodeTableWord 24 0x1234EE = some (.incAbs 0x34 0x12) ∧
    decodeTableWord 24 0x1234EF = some (.xIscAbs 0x34 0x12) := by
  decide

theorem test_decode_row_F :
    decodeTableWord 16 0x34F0 = some (.beqRel 0x34) ∧
    decodeTableWord 16 0x34F1 = some (.sbcIzy 0x34) ∧
    decodeTableWord 8 0xF2 = some .xKilImpF2 ∧
    decodeTableWord 16 0x34F3 = some (.xIscIzy 0x34) ∧
    decodeTableWord 16 0x34F4 = some (.xNopZpxF4 0x34) ∧
    decodeTableWord 16 0x34F5 = some (.sbcZpx 0x34) ∧
    decodeTableWord 16 0x34F6 = some (.incZpx 0x34) ∧
    decodeTableWord 16 0x34F7 = some (.xIscZpx 0x34) ∧
    decodeTableWord 8 0xF8 = some .sedImp ∧
    decodeTableWord 24 0x1234F9 = some (.sbcAby 0x34 0x12) ∧
    decodeTableWord 8 0xFA = some .xNopImpFA ∧
    decodeTableWord 24 0x1234FB = some (.xIscAby 0x34 0x12) ∧
    decodeTableWord 24 0x1234FC = some (.xNopAbxFC 0x34 0x12) ∧
    decodeTableWord 24 0x1234FD = some (.sbcAbx 0x34 0x12) ∧
    decodeTableWord 24 0x1234FE = some (.incAbx 0x34 0x12) ∧
    decodeTableWord 24 0x1234FF = some (.xIscAbx 0x34 0x12) := by
  decide

/-- The bits above `nbits` are 0, and a list that ends too early is refused by name. -/
theorem test_decode_short :
    decodeTableWord 8 0x1234AD = some (.ldaAbs 0 0) ∧ decode [] = .error .noOpcode ∧
    decode [0xA9] = .error (.cutShort 0xA9) ∧ decode [0xAD, 0x34] = .error (.cutShort 0xAD) := by
  refine ⟨by decide, rfl, rfl, rfl⟩

/-- A decode takes no more than its own bytes (R64). -/
theorem test_decode_rest : decode [0xEA, 0x01, 0x02] = .ok (.nopImp, [0x01, 0x02]) := rfl

/-- The mode codes of R66 and D19. -/
theorem test_mode_codes :
    [Mode.immediate, .absolute, .zeroPage, .accumulator, .implied, .indexedIndirect, .indirectIndexed, .zeroPageX,
      .zeroPageY, .absoluteX, .absoluteY, .relative, .indirect].map (fun m => m.code.toNat) = List.range 13 := by decide

/-! ### Records (spec/95_test_vectors.md) -/

/-- L1.1. -/
theorem test_L1_1 :
    (lastRecord (step (running [0x10, 0xFE, 0, 0] 0 0 2))) =
      some { address := 0, rawBytes := [0x10, 0xFE], mnemonic := "BPL".toList, operandText := "$0000 (-2)".toList,
             opcodeByte := 0x10, illegal := false, mode := .relative, length := 2, operandValue := some (.byte 0xFE),
             displacement := some (-2), target := some 0, lineText := "BPL $0000 (-2)".toList } := by decide

/-- L1.2, its two decode steps and its end. -/
theorem test_L1_2 :
    shows [0xA9, 0x05, 0x4C, 0x00, 0x10, 0, 0] 0x1000 0 5 = some (0x1000, "LDA #$05", 2) ∧
    shows [0xA9, 0x05, 0x4C, 0x00, 0x10, 0, 0] 0x1000 2 3 = some (0x1002, "JMP $1000", 5) ∧
    control (step (running [0xA9, 0x05, 0x4C, 0x00, 0x10, 0, 0] 0x1000 5 0)) = some (.done, 5, some .accepted) := by
  decide

/-- L2.1: one vector for each addressing mode. -/
theorem test_L2_1_lines :
    lineOf [0xA9, 0x05] = some "LDA #$05".toList ∧
    lineOf [0xA9, 0xFF] = some "LDA #$FF".toList ∧
    lineOf [0xAD, 0x34, 0x12] = some "LDA $1234".toList ∧
    lineOf [0xA5, 0x10] = some "LDA $10".toList ∧
    lineOf [0x0A] = some "ASL".toList ∧
    lineOf [0xEA] = some "NOP".toList ∧
    lineOf [0xA1, 0x20] = some "LDA ($20,X)".toList ∧
    lineOf [0xB1, 0x20] = some "LDA ($20),Y".toList ∧
    lineOf [0xB5, 0xFF] = some "LDA $FF,X".toList ∧
    lineOf [0xB6, 0x80] = some "LDX $80,Y".toList ∧
    lineOf [0xBD, 0xFF, 0xFF] = some "LDA $FFFF,X".toList ∧
    lineOf [0xBE, 0x34, 0x12] = some "LDX $1234,Y".toList ∧
    lineOf [0x6C, 0xFF, 0x10] = some "JMP ($10FF)".toList ∧
    lineOf [0xD0, 0x00] = some "BNE $C002 (+0)".toList ∧
    lineOf [0xD0, 0x7F] = some "BNE $C081 (+127)".toList ∧
    lineOf [0xD0, 0x80] = some "BNE $BF82 (-128)".toList ∧
    lineOf [0xD0, 0xFE] = some "BNE $C000 (-2)".toList ∧
    lineOf [0xD0, 0xFF] = some "BNE $C001 (-1)".toList := by
  decide

/-- L2.1: operand value, displacement and target. -/
theorem test_L2_1_values :
    [valuesOf [0xA9, 0x05],
      valuesOf [0xA9, 0xFF],
      valuesOf [0xAD, 0x34, 0x12],
      valuesOf [0xA5, 0x10],
      valuesOf [0x0A],
      valuesOf [0xEA],
      valuesOf [0xA1, 0x20],
      valuesOf [0xB1, 0x20],
      valuesOf [0xB5, 0xFF]] =
    [some (some (.byte 0x05), none, none),
      some (some (.byte 0xFF), none, none),
      some (some (.addr 0x1234), none, none),
      some (some (.byte 0x10), none, none),
      some (none, none, none),
      some (none, none, none),
      some (some (.byte 0x20), none, none),
      some (some (.byte 0x20), none, none),
      some (some (.byte 0xFF), none, none)] := by
  decide

theorem test_L2_1_values_more :
    [valuesOf [0xB6, 0x80],
      valuesOf [0xBD, 0xFF, 0xFF],
      valuesOf [0xBE, 0x34, 0x12],
      valuesOf [0x6C, 0xFF, 0x10],
      valuesOf [0xD0, 0x00],
      valuesOf [0xD0, 0x7F],
      valuesOf [0xD0, 0x80],
      valuesOf [0xD0, 0xFE],
      valuesOf [0xD0, 0xFF]] =
    [some (some (.byte 0x80), none, none),
      some (some (.addr 0xFFFF), none, none),
      some (some (.addr 0x1234), none, none),
      some (some (.addr 0x10FF), none, none),
      some (some (.byte 0x00), some (0), some 0xC002),
      some (some (.byte 0x7F), some (127), some 0xC081),
      some (some (.byte 0x80), some (-128), some 0xBF82),
      some (some (.byte 0xFE), some (-2), some 0xC000),
      some (some (.byte 0xFF), some (-1), some 0xC001)] := by
  decide

/-- L2.2: one vector for each rule of spec/43_load_store_transfer.md. -/
theorem test_L2_2_43_load_store_transfer :
    lineOf [0x81, 0x34] = some "STA ($34,X)".toList ∧
    lineOf [0x84, 0x34] = some "STY $34".toList ∧
    lineOf [0x86, 0x34] = some "STX $34".toList ∧
    lineOf [0x8A] = some "TXA".toList ∧
    lineOf [0x98] = some "TYA".toList ∧
    lineOf [0x9A] = some "TXS".toList ∧
    lineOf [0xA0, 0x34] = some "LDY #$34".toList ∧
    lineOf [0xA1, 0x34] = some "LDA ($34,X)".toList ∧
    lineOf [0xA2, 0x34] = some "LDX #$34".toList ∧
    lineOf [0xA8] = some "TAY".toList ∧
    lineOf [0xAA] = some "TAX".toList ∧
    lineOf [0xBA] = some "TSX".toList := by
  decide

/-- L2.2: one vector for each rule of spec/44_alu.md. -/
theorem test_L2_2_44_alu :
    lineOf [0x01, 0x34] = some "ORA ($34,X)".toList ∧
    lineOf [0x21, 0x34] = some "AND ($34,X)".toList ∧
    lineOf [0x24, 0x34] = some "BIT $34".toList ∧
    lineOf [0x41, 0x34] = some "EOR ($34,X)".toList ∧
    lineOf [0x61, 0x34] = some "ADC ($34,X)".toList ∧
    lineOf [0xC0, 0x34] = some "CPY #$34".toList ∧
    lineOf [0xC1, 0x34] = some "CMP ($34,X)".toList ∧
    lineOf [0xE0, 0x34] = some "CPX #$34".toList ∧
    lineOf [0xE1, 0x34] = some "SBC ($34,X)".toList := by
  decide

/-- L2.2: one vector for each rule of spec/45_shift_incdec.md. -/
theorem test_L2_2_45_shift_incdec :
    lineOf [0x06, 0x34] = some "ASL $34".toList ∧
    lineOf [0x26, 0x34] = some "ROL $34".toList ∧
    lineOf [0x46, 0x34] = some "LSR $34".toList ∧
    lineOf [0x66, 0x34] = some "ROR $34".toList ∧
    lineOf [0x88] = some "DEY".toList ∧
    lineOf [0xC6, 0x34] = some "DEC $34".toList ∧
    lineOf [0xC8] = some "INY".toList ∧
    lineOf [0xCA] = some "DEX".toList ∧
    lineOf [0xE6, 0x34] = some "INC $34".toList ∧
    lineOf [0xE8] = some "INX".toList := by
  decide

/-- L2.2: one vector for each rule of spec/46_control.md. -/
theorem test_L2_2_46_control :
    lineOf [0x00] = some "BRK".toList ∧
    lineOf [0x10, 0xFE] = some "BPL $C000 (-2)".toList ∧
    lineOf [0x20, 0x34, 0x12] = some "JSR $1234".toList ∧
    lineOf [0x30, 0xFE] = some "BMI $C000 (-2)".toList ∧
    lineOf [0x40] = some "RTI".toList ∧
    lineOf [0x4C, 0x34, 0x12] = some "JMP $1234".toList ∧
    lineOf [0x50, 0xFE] = some "BVC $C000 (-2)".toList ∧
    lineOf [0x60] = some "RTS".toList ∧
    lineOf [0x70, 0xFE] = some "BVS $C000 (-2)".toList ∧
    lineOf [0x90, 0xFE] = some "BCC $C000 (-2)".toList ∧
    lineOf [0xB0, 0xFE] = some "BCS $C000 (-2)".toList ∧
    lineOf [0xD0, 0xFE] = some "BNE $C000 (-2)".toList ∧
    lineOf [0xF0, 0xFE] = some "BEQ $C000 (-2)".toList := by
  decide

/-- L2.2: one vector for each rule of spec/47_flags_stack_nop.md. -/
theorem test_L2_2_47_flags_stack_nop :
    lineOf [0x08] = some "PHP".toList ∧
    lineOf [0x18] = some "CLC".toList ∧
    lineOf [0x28] = some "PLP".toList ∧
    lineOf [0x38] = some "SEC".toList ∧
    lineOf [0x48] = some "PHA".toList ∧
    lineOf [0x58] = some "CLI".toList ∧
    lineOf [0x68] = some "PLA".toList ∧
    lineOf [0x78] = some "SEI".toList ∧
    lineOf [0xB8] = some "CLV".toList ∧
    lineOf [0xD8] = some "CLD".toList ∧
    lineOf [0xEA] = some "NOP".toList ∧
    lineOf [0xF8] = some "SED".toList := by
  decide

/-- L2.2: one vector for each rule of spec/48_undocumented.md. -/
theorem test_L2_2_48_undocumented :
    lineOf [0x02] = some "kil".toList ∧
    lineOf [0x03, 0x34] = some "slo ($34,X)".toList ∧
    lineOf [0x04, 0x34] = some "nop $34".toList ∧
    lineOf [0x0B, 0x34] = some "anc #$34".toList ∧
    lineOf [0x23, 0x34] = some "rla ($34,X)".toList ∧
    lineOf [0x43, 0x34] = some "sre ($34,X)".toList ∧
    lineOf [0x4B, 0x34] = some "alr #$34".toList ∧
    lineOf [0x63, 0x34] = some "rra ($34,X)".toList ∧
    lineOf [0x6B, 0x34] = some "arr #$34".toList ∧
    lineOf [0x83, 0x34] = some "sax ($34,X)".toList ∧
    lineOf [0x8B, 0x34] = some "xaa #$34".toList ∧
    lineOf [0x93, 0x34] = some "ahx ($34),Y".toList ∧
    lineOf [0x9B, 0x34, 0x12] = some "tas $1234,Y".toList ∧
    lineOf [0x9C, 0x34, 0x12] = some "shy $1234,X".toList ∧
    lineOf [0x9E, 0x34, 0x12] = some "shx $1234,Y".toList ∧
    lineOf [0xA3, 0x34] = some "lax ($34,X)".toList ∧
    lineOf [0xBB, 0x34, 0x12] = some "las $1234,Y".toList ∧
    lineOf [0xC3, 0x34] = some "dcp ($34,X)".toList ∧
    lineOf [0xCB, 0x34] = some "axs #$34".toList ∧
    lineOf [0xE3, 0x34] = some "isc ($34,X)".toList ∧
    lineOf [0xEB, 0x34] = some "sbc #$34".toList := by
  decide

/-- L2.6: undocumented opcodes. -/
theorem test_L2_6 :
    lineOf [0x02] = some "kil".toList ∧
    lineOf [0x0B, 0x34] = some "anc #$34".toList ∧
    lineOf [0x1A] = some "nop".toList ∧
    lineOf [0x80, 0x34] = some "nop #$34".toList ∧
    lineOf [0x04, 0x34] = some "nop $34".toList ∧
    lineOf [0x14, 0x34] = some "nop $34,X".toList ∧
    lineOf [0x0C, 0x34, 0x12] = some "nop $1234".toList ∧
    lineOf [0x1C, 0x34, 0x12] = some "nop $1234,X".toList ∧
    lineOf [0x9C, 0x34, 0x12] = some "shy $1234,X".toList ∧
    lineOf [0x9E, 0x34, 0x12] = some "shx $1234,Y".toList ∧
    lineOf [0x9F, 0x34, 0x12] = some "ahx $1234,Y".toList ∧
    lineOf [0xAB, 0x34] = some "lax #$34".toList ∧
    lineOf [0xBB, 0x34, 0x12] = some "las $1234,Y".toList ∧
    lineOf [0xCB, 0x34] = some "axs #$34".toList ∧
    lineOf [0xEB, 0x34] = some "sbc #$34".toList ∧
    lineOf [0xFF, 0x34, 0x12] = some "isc $1234,X".toList ∧
    lineOf [0xB7, 0x34] = some "lax $34,Y".toList ∧
    lineOf [0x97, 0x34] = some "sax $34,Y".toList := by
  decide

/-- L2.3: a last instruction may spill into the pad; its first decode step. -/
theorem test_L2_3_spill :
    shows [0xAD, 0, 0] 0 0 1 = some (0, "LDA $0000", 3) ∧
    shows [0xEA, 0x4C, 0, 0] 0 1 1 = some (1, "JMP $0000", 4) ∧
    shows [0xAD, 0x11, 0x22] 0 0 1 = some (0, "LDA $2211", 3) ∧
    shows [0xFF, 0xA9, 0x05, 0x60, 0, 0] 0 1 3 = some (1, "LDA #$05", 3) ∧
    shows [0xFF, 0xA9, 0x05, 0x60, 0, 0] 0 0 4 = some (0, "isc $05A9,X", 3) := by decide

/-- L2.3: empty data. -/
theorem test_L2_3_empty : control (step (running [0, 0] 0 0 0)) = some (.done, 0, some .accepted) := by decide

/-- L2.3: the pad is missing, and a Start while Busy (R302, R305). -/
theorem test_L2_3_refused :
    control (step (waiting [0xAD, 0x00] [.start ⟨0, 0, 1⟩])) = some (.idle, 0, some (.refused .outOfBuffer)) ∧
    control (step (waiting [0xAD, 0x00, 0x00] [.start ⟨0, 0, 1⟩])) = some (.busy, 0, some .accepted) ∧
    control (step { running [0xEA, 0, 0] 0 0 1 with hostMoves := [.start ⟨0, 0, 99⟩] }) =
      some (.busy, 0, some (.refused .busy)) := by decide

/-- L2.4: address wrap. -/
theorem test_L2_4 :
    shows [0xEA, 0xEA, 0xEA, 0, 0] 0xFFFE 1 2 = some (0xFFFF, "NOP", 2) ∧
    shows [0xEA, 0xEA, 0xEA, 0, 0] 0xFFFE 2 1 = some (0x0000, "NOP", 3) ∧
    shows [0xD0, 0x80, 0, 0] 0 0 2 = some (0, "BNE $FF82 (-128)", 2) ∧
    shows [0xD0, 0x7F, 0, 0] 0xFFF0 0 2 = some (0xFFF0, "BNE $0071 (+127)", 2) ∧
    shows [0xEA, 0xD0, 0xFB, 0, 0] 0xFFFF 1 2 = some (0, "BNE $FFFD (-5)", 3) := by decide

/-- L2.5: the displacement table. -/
theorem test_L2_5 :
    [0x00, 0x01, 0x10, 0x7E, 0x7F].map sext8 = [0, 1, 16, 126, 127] ∧
    [0x80, 0x81, 0xC0, 0xFE, 0xFF].map sext8 = [-128, -127, -64, -2, -1] := by decide

/-- R281: another spelling of `kil` changes the record's mnemonic and line, not its opcode byte. -/
theorem test_spelling :
    (lastRecord (exec .xKilImp02 { running [0x02, 0, 0] 0 0 1 with
      params := { Config.resetParams with illegalMnemonics := [(['k', 'i', 'l'], ['j', 'a', 'm'])] } })).map
        (fun r => (r.mnemonic, r.lineText, r.opcodeByte)) = some ("jam".toList, "jam".toList, 0x02) := by decide

/-- R331: in phase Idle a register read faults; R114: no decode step past the end of the data. -/
theorem test_faults :
    faultOf (exec .nopImp State.reset) = some (.unwrittenRegister .cursor) ∧
    faultOf (exec .nopImp (running [0xEA, 0, 0] 0 1 0)) = some .noDecodeStep := by decide

/-- R40: a read outside the buffer, in a state that no run reaches. -/
theorem test_read_outside : faultOf (step (running [] 0 0 1)) = some (.readOutsideBuf 0) := by decide

/-- R315, R336: a host write in and at the edges of the protected range [1, 1 + 2 + 2) of a buffer of 6 bytes. -/
theorem test_host_write :
    refusalOf (hostWrite 1 7 (running [0, 0xEA, 0xEA, 0, 0, 0] 0 1 2)) = some (.hostWriteProtected 1) ∧
    refusalOf (hostWrite 4 7 (running [0, 0xEA, 0xEA, 0, 0, 0] 0 1 2)) = some (.hostWriteProtected 4) ∧
    refusalOf (hostWrite 0 7 (running [0, 0xEA, 0xEA, 0, 0, 0] 0 1 2)) = none ∧
    refusalOf (hostWrite 5 7 (running [0, 0xEA, 0xEA, 0, 0, 0] 0 1 2)) = none ∧
    refusalOf (hostWrite 6 7 (running [0, 0xEA, 0xEA, 0, 0, 0] 0 1 2)) = some (.hostWriteOutsideBuf 6) := by decide

/-- R315, R337: Poll reads the phase and OUT; Collect gives the whole OUT in Done, and nothing before. -/
theorem test_poll_collect :
    poll (running [0xEA, 0, 0] 0 0 1) = (.busy, []) ∧ collect (running [0xEA, 0, 0] 0 0 1) = none ∧
    collect (finish (running [0xEA, 0, 0] 0 1 0)) = some [] := by decide

/-- The buffer: a read after a write, and that writing the blank byte takes the cell away again. -/
theorem test_memory :
    Memory.write (Memory.write [] 5 1) 3 2 = [(3, 2), (5, 1)] ∧ Memory.write [(3, 2), (5, 1)] 3 0 = [(5, 1)] ∧
    Memory.read [(3, 2), (5, 1)] 5 = 1 ∧ Memory.read [(3, 2), (5, 1)] 4 = 0 := by decide

/-- The default ROM with another entry at 0xEA (R104, U15). -/
def otherRom (e : OpcodeEntry) : OpcodeRom := defaultRom.set 14 (romRowE.set 10 e)

/-- R64, R104: boundaries and bytes follow the mode of the ROM's entry, whatever the default table says. The bytes EA 34 12
of a block whose ROM has an Absolute, a Zero Page and an Implied entry at 0xEA. -/
theorem test_other_rom :
    [Mode.absolute, .zeroPage, .implied].map (fun m =>
      (lastRecord (step { running [0xEA, 0x34, 0x12, 0] 0 0 1 with
        params := { Config.resetParams with bufSize := 4, rom := otherRom ⟨['X', 'Y', 'Z'], m, false⟩ } })).map
          fun r => (r.lineText, r.rawBytes)) =
      [some ("XYZ $1234".toList, [0xEA, 0x34, 0x12]), some ("XYZ $34".toList, [0xEA, 0x34]),
        some ("XYZ".toList, [0xEA])] := by decide

/-- A buffer of the byte EA alone, under a ROM that has a Zero Page entry there. -/
def shortBuffer : State :=
  { running [0xEA] 0 0 1 with
    params := { Config.resetParams with bufSize := 1, rom := otherRom ⟨['X', 'Y', 'Z'], .zeroPage, false⟩ } }

/-- The same instruction at the last byte of the buffer: its operand byte would lie outside (R40). -/
theorem test_other_rom_outside : faultOf (exec .nopImp shortBuffer) = some (.readOutsideBuf 1) := by decide

/-- A placed instruction is the first that runs after reset. -/
theorem test_placed_after_reset :
    (lastRecord (step (State.reset.withFetchWord 24 0x12344C))).map (fun r => r.lineText) = some "JMP $1234".toList := by
  decide

/-! ### Witnesses: for every obligation with hypotheses, a state and operands that meet all of them -/

/-- One NOP and its pad: a Busy block at the start of its data. -/
abbrev nopState : State := running [0xEA, 0, 0] 0 0 1

/-- The same at the end of its data, having decoded nothing (LEN = 0). -/
abbrev endState : State := running [0, 0] 0 0 0

/-- A block in Idle, and the host's Start for one NOP. -/
abbrev startState : State := waiting [0xEA, 0, 0] [.start ⟨0, 0, 1⟩]

/-- A freshly accepted request meets the invariant where it fits the buffer. -/
theorem running_inv (bytes : List Byte) (load : Addr) (start len : Nat)
    (hp : ({ Config.resetParams with bufSize := bytes.length } : Params).wellFormed = true)
    (hw : Memory.wf (place 0 bytes)) (hi : ∀ c ∈ place 0 bytes, c.1 < bytes.length)
    (hf : start + len + 2 ≤ bytes.length) : (running bytes load start len).Inv where
  params := hp
  bufWf := hw
  bufIn := hi
  idle h := by cases h
  ascii _ h := by cases h
  inBuf _ := ⟨Nat.le_add_right _ _, hf⟩
  tiles _ := rfl
  lists _ := rfl
  done h := by cases h

theorem nopState_inv : nopState.Inv := running_inv _ _ _ _ (by decide +kernel) (by decide) (by decide) (by decide)
theorem endState_inv : endState.Inv := running_inv _ _ _ _ (by decide +kernel) (by decide) (by decide) (by decide)

/-- The Start of one NOP, run to its end: accept, decode, finish. -/
theorem startState_run : ∃ t, run 3 startState = .next t ∧ t.phase = .done ∧ t.out.length = 1 := ⟨_, rfl, rfl, rfl⟩

theorem witness_StepRunsDecodedInstruction :
    (nopState.Decoding ∧ nopState.cursor + (encode .nopImp).length ≤ nopState.params.bufSize ∧
      bytesAt nopState.buf nopState.cursor (encode .nopImp).length = encode .nopImp ∧ nopState.hostMoves = []) ∧
    ({ nopState with hostMoves := [.pass] } : State).hostMoves = .pass :: [] := by decide

theorem witness_StepRunsDecodedInstruction_in_the_pad :
    (running [0xAD, 1, 2] 0 0 1).Decoding ∧
      (running [0xAD, 1, 2] 0 0 1).cursor + (encode (.ldaAbs 1 2)).length = (running [0xAD, 1, 2] 0 0 1).params.bufSize ∧
      bytesAt (running [0xAD, 1, 2] 0 0 1).buf 0 (encode (.ldaAbs 1 2)).length = encode (.ldaAbs 1 2) := by decide

theorem witness_StepFinishesAtDataEnd :
    endState.phase = .busy ∧ endState.dataEnd ≤ endState.cursor ∧ endState.hostMoves = [] ∧
    ({ endState with hostMoves := [.pass] } : State).hostMoves = .pass :: [] := by decide

theorem witness_AcceptedStartSetsRequest :
    startState.hostMoves = .start ⟨0, 0, 1⟩ :: [] ∧ startState.phase ≠ .busy ∧ 0 + 1 + 2 = startState.params.bufSize :=
  by decide

theorem witness_RefusedStartChangesNothing :
    ({ nopState with hostMoves := [.start ⟨0, 0, 1⟩] } : State).hostMoves = .start ⟨0, 0, 1⟩ :: [] ∧ nopState.phase = .busy ∧
    (waiting [0xAD, 0] [.start ⟨0, 0, 1⟩]).hostMoves = .start ⟨0, 0, 1⟩ :: [] ∧
    (waiting [0xAD, 0] [.start ⟨0, 0, 1⟩]).phase ≠ .busy ∧
    (waiting [0xAD, 0] [.start ⟨0, 0, 1⟩]).params.bufSize + 1 = 0 + 1 + 2 := by decide

theorem witness_ResetWinsAndBusyIsReportedFirst :
    nopState.phase = .busy ∧ nopState.params.bufSize < 0 + 2 + 2 ∧
    ({ nopState with hostMoves := [.start ⟨0, 0, 2⟩] } : State).hostMoves = .start ⟨0, 0, 2⟩ :: [] ∧
    ({ nopState with hostMoves := [.resetAndStart ⟨0, 0, 2⟩] } : State).hostMoves = .resetAndStart ⟨0, 0, 2⟩ :: [] :=
  by decide

theorem witness_ResetAbandonsTheRequest :
    ({ nopState with hostMoves := [.reset] } : State).hostMoves = .reset :: [] ∧ nopState.phase = .busy := by decide

theorem witness_UnwrittenRegistersFaultAndNoStepReadsThem :
    State.reset.phase = .idle ∧ (∃ t, step State.reset = .next t) ∧ nopState.phase ≠ .idle :=
  ⟨rfl, ⟨_, rfl⟩, by decide⟩

theorem witness_IdleAndDoneWaitForTheHost :
    State.reset.phase ≠ .busy ∧ State.reset.hostMoves = [] ∧ (finish endState).phase ≠ .busy ∧
    (waiting [] [.pass]).hostMoves = .pass :: [] := by decide

theorem witness_HostWriteIsOneByteOrRefused :
    Memory.wf nopState.buf ∧
    ({ nopState with hostMoves := [.write 2 7] } : State).hostMoves = .write 2 7 :: [] ∧
    (2 < nopState.params.bufSize ∧ nopState.phase = .busy ∧ nopState.reqStart ≤ 2 ∧ 2 < nopState.dataEnd + 2) ∧
    (0 < (running [0, 0xEA, 0, 0] 0 1 1).params.bufSize ∧
      ¬((running [0, 0xEA, 0, 0] 0 1 1).phase = .busy ∧ (running [0, 0xEA, 0, 0] 0 1 1).reqStart ≤ 0 ∧
        0 < (running [0, 0xEA, 0, 0] 0 1 1).dataEnd + 2)) ∧
    (4 < (running [0, 0xEA, 0, 0, 0] 0 1 1).params.bufSize ∧
      ¬((running [0, 0xEA, 0, 0, 0] 0 1 1).phase = .busy ∧ (running [0, 0xEA, 0, 0, 0] 0 1 1).reqStart ≤ 4 ∧
        4 < (running [0, 0xEA, 0, 0, 0] 0 1 1).dataEnd + 2)) ∧
    nopState.params.bufSize ≤ 3 := by decide

theorem witness_EncodeInvertsDecode :
    decode [0xA9, 0x05, 0xEA] = .ok (.ldaImm 0x05, [0xEA]) := rfl

theorem witness_TwoByteOperandsAreLittleEndian :
    nopState.Decoding ∧ (lookup nopState.params.rom 0x4C).mode = .absolute := by decide

theorem witness_OpcodeByteFixesTheLength :
    nopState.Decoding ∧ nopState.hostMoves = [] ∧ ∃ t, step nopState = .next t := ⟨by decide, rfl, _, rfl⟩

theorem witness_EveryInstructionEmitsOneRecord :
    nopState.Decoding ∧ ∀ i : Instr,
    (encode i).length = 1 + (lookup nopState.params.rom ((encode i).headD 0)).mode.operandBytes :=
  ⟨by decide, fun i => by rw [← byte_zero]; exact encode_length i⟩

theorem witness_RecordRepeatsTheRomEntry :
    (∃ t, exec (.bneRel 0xFE) nopState = .next t) ∧
    (nopState.Decoding ∧ nopState.cursor + 3 = nopState.params.bufSize) := ⟨⟨_, rfl⟩, by decide⟩

theorem witness_InstructionsRunOnlyWhereTheBlockDecodes :
    ((¬State.reset.Decoding ∧ State.reset.phase = .idle) ∧ (¬endState.Decoding ∧ endState.phase ≠ .idle) ∧
    (¬(finish nopState).Decoding ∧ (finish nopState).phase ≠ .idle)) ∧
    (nopState.Decoding ∧ nopState.cursor + (1 + (lookup nopState.params.rom 0xEA).mode.operandBytes) ≤ nopState.params.bufSize) ∧
    (shortBuffer.Decoding ∧ (encode .nopImp).length < 1 + (lookup shortBuffer.params.rom 0xEA).mode.operandBytes ∧
      shortBuffer.params.bufSize < shortBuffer.cursor + (1 + (lookup shortBuffer.params.rom 0xEA).mode.operandBytes)) :=
  by decide

/-- `RecordsAs` and `BranchesAs` ask that the block decodes under a ROM that has the default entry of
the opcode byte; so in this statement and the 17 after it. -/
theorem witness_LoadsDecodeToTheirRecords :
    nopState.Decoding ∧ ∀ b, lookup nopState.params.rom b = lookup defaultRom b := ⟨by decide, fun _ => rfl⟩

theorem witness_StoresDecodeToTheirRecords :
    nopState.Decoding ∧ ∀ b, lookup nopState.params.rom b = lookup defaultRom b := ⟨by decide, fun _ => rfl⟩

theorem witness_TransfersDecodeToTheirRecords :
    nopState.Decoding ∧ ∀ b, lookup nopState.params.rom b = lookup defaultRom b := ⟨by decide, fun _ => rfl⟩

theorem witness_AddAndSubtractDecodeToTheirRecords :
    nopState.Decoding ∧ ∀ b, lookup nopState.params.rom b = lookup defaultRom b := ⟨by decide, fun _ => rfl⟩

theorem witness_LogicDecodesToItsRecords :
    nopState.Decoding ∧ ∀ b, lookup nopState.params.rom b = lookup defaultRom b := ⟨by decide, fun _ => rfl⟩

theorem witness_ComparesDecodeToTheirRecords :
    nopState.Decoding ∧ ∀ b, lookup nopState.params.rom b = lookup defaultRom b := ⟨by decide, fun _ => rfl⟩

theorem witness_ShiftsDecodeToTheirRecords :
    nopState.Decoding ∧ ∀ b, lookup nopState.params.rom b = lookup defaultRom b := ⟨by decide, fun _ => rfl⟩

theorem witness_IncrementsDecodeToTheirRecords :
    nopState.Decoding ∧ ∀ b, lookup nopState.params.rom b = lookup defaultRom b := ⟨by decide, fun _ => rfl⟩

theorem witness_JumpsDecodeToTheirRecords :
    nopState.Decoding ∧ ∀ b, lookup nopState.params.rom b = lookup defaultRom b := ⟨by decide, fun _ => rfl⟩

theorem witness_BranchesDecodeToTheirRecords :
    nopState.Decoding ∧ ∀ b, lookup nopState.params.rom b = lookup defaultRom b := ⟨by decide, fun _ => rfl⟩

theorem witness_FlagInstructionsDecodeToTheirRecords :
    nopState.Decoding ∧ ∀ b, lookup nopState.params.rom b = lookup defaultRom b := ⟨by decide, fun _ => rfl⟩

theorem witness_StackAndNopDecodeToTheirRecords :
    nopState.Decoding ∧ ∀ b, lookup nopState.params.rom b = lookup defaultRom b := ⟨by decide, fun _ => rfl⟩

theorem witness_ShiftCombinationsDecodeToTheirRecords :
    nopState.Decoding ∧ ∀ b, lookup nopState.params.rom b = lookup defaultRom b := ⟨by decide, fun _ => rfl⟩

theorem witness_StoreAndCompareCombinationsDecodeToTheirRecords :
    nopState.Decoding ∧ ∀ b, lookup nopState.params.rom b = lookup defaultRom b := ⟨by decide, fun _ => rfl⟩

theorem witness_UndocumentedImmediatesDecodeToTheirRecords :
    nopState.Decoding ∧ ∀ b, lookup nopState.params.rom b = lookup defaultRom b := ⟨by decide, fun _ => rfl⟩

theorem witness_UnstableStoresDecodeToTheirRecords :
    nopState.Decoding ∧ ∀ b, lookup nopState.params.rom b = lookup defaultRom b := ⟨by decide, fun _ => rfl⟩

theorem witness_UndocumentedNopsDecodeToTheirRecords :
    nopState.Decoding ∧ ∀ b, lookup nopState.params.rom b = lookup defaultRom b := ⟨by decide, fun _ => rfl⟩

theorem witness_KilDecodesAndDecodingContinues :
    nopState.Decoding ∧ ∀ b, lookup nopState.params.rom b = lookup defaultRom b := ⟨by decide, fun _ => rfl⟩

theorem witness_BranchesDecodeToTheirRecords_other_layout :
    ({ nopState with params := { nopState.params with relFormat := .other 1 } } : State).Decoding := by decide

theorem witness_EveryStepKeepsTheInvariant :
    nopState.Inv ∧ ∃ t, step nopState = .next t := ⟨nopState_inv, _, rfl⟩

theorem witness_StepsAlwaysComplete :
    nopState.Inv ∧ nopState.HostDutiful := ⟨nopState_inv, fun _ _ _ h => by cases h⟩

theorem witness_BusyStepNeverRaises :
    (nopState.Inv ∧ nopState.phase = .busy ∧ nopState.hostMoves = [] ∧ nopState.cursor < nopState.dataEnd) ∧
    (endState.Inv ∧ endState.phase = .busy ∧ endState.hostMoves = [] ∧ endState.dataEnd ≤ endState.cursor) :=
  ⟨⟨nopState_inv, by decide⟩, ⟨endState_inv, by decide⟩⟩

theorem witness_StepReadsOnlyTheRequestsBytes :
    nopState.Inv ∧ nopState.phase = .busy ∧ nopState.hostMoves = [] ∧
    (∀ o, nopState.reqStart ≤ o → o < nopState.dataEnd + 2 → Memory.read [(0, 0xEA), (3, 9)] o = Memory.read nopState.buf o) ∧
    ([(0, 0xEA), (3, 9)] : Memory) ≠ nopState.buf ∧ ∃ t, step nopState = .next t := by
  refine ⟨nopState_inv, by decide, by decide, fun o _ h => ?_, by decide, _, rfl⟩
  have : o < 3 := h
  interval_cases o <;> decide

theorem witness_SameRequestSameOutput :
    startState.phase ≠ .busy ∧ (finish startState).phase ≠ .busy ∧ startState.hostMoves = [.start ⟨0, 0, 1⟩] ∧
    (finish startState).hostMoves = [.start ⟨0, 0, 1⟩] ∧ startState.params = (finish startState).params ∧
    0 + 1 + 2 ≤ startState.params.bufSize ∧
    ∀ o, 0 ≤ o → o < 0 + 1 + 2 → Memory.read startState.buf o = Memory.read (finish startState).buf o :=
  ⟨by decide, by decide, rfl, rfl, rfl, by decide, fun _ _ _ => rfl⟩

theorem witness_RequestEndsWithinLenPlusOneSteps :
    startState.phase ≠ .busy ∧ startState.hostMoves = [.start ⟨0, 0, 1⟩] ∧ 0 + 1 + 2 ≤ startState.params.bufSize :=
  by decide

theorem witness_FinishedOutputIsTheListing :
    startState.phase ≠ .busy ∧ startState.hostMoves = [.start ⟨0, 0, 1⟩] ∧ 0 + 1 + 2 ≤ startState.params.bufSize :=
  by decide

theorem witness_FinishedOutputCoversTheData :
    startState.phase ≠ .busy ∧ startState.hostMoves = [.start ⟨0, 0, 1⟩] ∧ 0 + 1 + 2 ≤ startState.params.bufSize ∧
    ∃ t, run (2 + 1) startState = .next t ∧ t.phase = .done :=
  ⟨by decide, by decide, by decide, _, rfl, rfl⟩

theorem witness_EmittedRecordsNeverChange :
    (∃ t, step nopState = .next t) ∧ (∃ t, step startState = .next t) ∧
    ∃ t, step { nopState with hostMoves := [.reset] } = .next t := ⟨⟨_, rfl⟩, ⟨_, rfl⟩, _, rfl⟩

theorem witness_PhaseMovesOnlyAsListed :
    (∃ t, step startState = .next t) ∧ (∃ t, step endState = .next t) ∧
    ∃ t, ({ nopState with hostMoves := [.reset] } : State).Inv ∧ step { nopState with hostMoves := [.reset] } = .next t ∧
      t.phase = .idle :=
  ⟨⟨_, rfl⟩, ⟨_, rfl⟩, _, ⟨nopState_inv.params, nopState_inv.bufWf, nopState_inv.bufIn, nopState_inv.idle,
    nopState_inv.ascii, nopState_inv.inBuf, nopState_inv.tiles, nopState_inv.lists, nopState_inv.done⟩, rfl, rfl⟩

theorem witness_BlockWritesNoMemory :
    (∃ t, exec .nopImp nopState = .next t) ∧ (∃ t, step nopState = .next t) ∧
    ∀ o v more, nopState.hostMoves ≠ .write o v :: more := ⟨⟨_, rfl⟩, ⟨_, rfl⟩, fun _ _ _ h => by cases h⟩

theorem witness_CursorStaysInsideTheBuffer :
    nopState.Inv ∧ nopState.phase ≠ .idle := ⟨nopState_inv, by decide⟩

theorem witness_MnemonicsAreThreeLettersInTheRightCase :
    nopState.params.wellFormed = true ∧ ∃ t, exec (.xSloZp 1) nopState = .next t := ⟨by decide +kernel, _, rfl⟩

theorem witness_EmittedTextIsAscii :
    (nopState.params.wellFormed = true ∧ ∃ t, exec (.xSloZp 1) nopState = .next t) ∧
    (nopState.Inv ∧ ∃ t, step nopState = .next t ∧ t.out ≠ []) :=
  ⟨⟨by decide +kernel, _, rfl⟩, nopState_inv, _, rfl, by decide⟩

theorem witness_IllegalSpellingsChangeOnlyText :
    ∃ t, exec (.xSloZp 1) nopState = .next t := ⟨_, rfl⟩

theorem witness_RelativeLayoutChangesOnlyText :
    ∃ t, exec (.bneRel 0xFE) nopState = .next t := ⟨_, rfl⟩

theorem witness_WindowStartsAtItsOwnAddress :
    let s := waiting [0, 0xEA, 0, 0] [.start ⟨0xFFFF, 0x10000 - (0xFFFF : Addr).toNat, 1⟩]
    s.phase ≠ .busy ∧ s.hostMoves = [.start ⟨0xFFFF, 0x10000 - (0xFFFF : Addr).toNat, 1⟩] ∧ (0xFFFF : Addr).toNat ≤ 0x10000 ∧
      0 < 1 ∧ (0x10000 - (0xFFFF : Addr).toNat) + 1 + 2 ≤ s.params.bufSize := by decide

theorem witness_PlacedInstructionRunsNext :
    Memory.wf State.reset.buf := reset_buf_wf

end Sys2Proof.Tests
end

section
/-! SUPPORT. The texts of a record are ASCII (spec/00_scope.md R8): the digits, the operand text of each mode, the mnemonic
under parameters that the spec allows, and the line made of the two. -/

namespace Sys2Proof.Machine

@[simp] theorem isAscii_nil : isAscii [] = true := rfl

@[simp] theorem isAscii_cons (c : Char) (t : Text) : isAscii (c :: t) = true ↔ c.toNat < 128 ∧ isAscii t = true := by
  simp [isAscii]

@[simp] theorem isAscii_append (t u : Text) : isAscii (t ++ u) = true ↔ isAscii t = true ∧ isAscii u = true := by
  simp [isAscii, List.all_append]

@[simp] theorem hexDigit_toNat_lt (n : Nat) : (hexDigit n).toNat < 128 := by
  have digits : ∀ c ∈ hexDigits, c.toNat < 128 := by simp [hexDigits]
  unfold hexDigit
  by_cases hn : n < hexDigits.length
  · rw [List.getD_eq_getElem _ _ hn]
    exact digits _ (List.getElem_mem hn)
  · rw [List.getD_eq_default _ _ (Nat.not_lt.1 hn)]
    decide

@[simp] theorem isAscii_hex2 (v : Byte) : isAscii (hex2 v) = true := by simp [hex2]

@[simp] theorem isAscii_hex4 (v : Addr) : isAscii (hex4 v) = true := by simp [hex4]

@[simp] theorem isAscii_decDigits (fuel n : Nat) : isAscii (decDigits fuel n) = true := by
  induction fuel generalizing n with
  | zero => rfl
  | succ fuel ih =>
    unfold decDigits
    split
    · simp
    · simp [ih]

@[simp] theorem isAscii_dec (n : Nat) : isAscii (dec n) = true := isAscii_decDigits _ _

@[simp] theorem sign_toNat_lt (d : Int) : (sign d).toNat < 128 := by
  unfold sign
  split <;> decide

/-- A 7-bit number is the code of the character made of it. -/
theorem toNat_ofNat_bitVec7 (c : BitVec 7) : (Char.ofNat c.toNat).toNat = c.toNat :=
  (Char.toNat_ofNat _).trans (if_pos (.inl (c.isLt.trans (by decide))))

@[simp] theorem isAscii_asciiText (cs : List (BitVec 7)) : isAscii (asciiText cs) = true := by
  simp only [isAscii, asciiText, List.all_map, List.all_eq_true, Function.comp_apply, decide_eq_true_eq,
    toNat_ofNat_bitVec7]
  exact fun c _ => c.isLt

/-- A relative operand is ASCII in every layout (R145, D7). -/
@[simp] theorem isAscii_relText (f : RelFormat) (target : Addr) (disp : Int) : isAscii (relText f target disp) = true := by
  cases f with
  | standard => simp [relText]
  | other layout => exact isAscii_asciiText _

@[simp] theorem isAscii_formatOperand (f : RelFormat) (m : Mode) (b1 b2 : Byte) (c : Nat) (l : Addr) :
    isAscii (formatOperand f m b1 b2 c l).text = true := by
  cases m <;> simp [formatOperand, plainOperand]

theorem isAscii_line {m t : Text} (hm : isAscii m = true) (ht : isAscii t = true) : isAscii (line m t) = true := by
  unfold line
  split
  · exact hm
  · simp [hm, ht]

/-- The conditions of R5, R101 and R281 on allowed parameters. -/
theorem params_wellFormed_iff {p : Params} :
    p.wellFormed = true ↔ p.sizeFits = true ∧ p.spellingsFit = true ∧ p.romFits = true := by
  simp [Params.wellFormed, and_assoc]

/-- R72, R101: a well-formed entry's mnemonic is three letters of the case that its `illegal` bit gives. -/
theorem entry_wellFormed_iff {e : OpcodeEntry} :
    e.wellFormed = true ↔
      e.mnemonic.length = 3 ∧ ∀ c ∈ e.mnemonic, if e.illegal then isLower c = true else isUpper c = true := by
  cases hi : e.illegal <;> simp [OpcodeEntry.wellFormed, hi]

theorem lookup_wellFormed {p : Params} (hp : p.wellFormed = true) (b : Byte) : (lookup p.rom b).wellFormed = true := by
  obtain ⟨-, -, hrom⟩ := params_wellFormed_iff.1 hp
  simp only [Params.romFits, Vector.all_eq_true] at hrom
  exact hrom _ _ _ _

/-- An emitted spelling of a lower-case mnemonic of three letters is three lower-case letters too (R281). -/
theorem spelling_fits {p : Params} (hp : p.wellFormed = true) {name : Text}
    (hn : name.length = 3 ∧ ∀ c ∈ name, isLower c = true) :
    (spelling p name).length = 3 ∧ ∀ c ∈ spelling p name, isLower c = true := by
  obtain ⟨-, hfit, -⟩ := params_wellFormed_iff.1 hp
  unfold spelling
  cases hl : p.illegalMnemonics.lookup name with
  | none => exact hn
  | some other =>
    obtain ⟨before, after, hpairs, -⟩ := List.lookup_eq_some_iff.1 hl
    have hpair := List.all_eq_true.1 hfit (name, other) (by simp [hpairs])
    simp only [Bool.and_eq_true, beq_iff_eq, List.all_eq_true] at hpair
    obtain ⟨⟨-, hlen⟩, hlower⟩ := hpair
    exact ⟨hlen, hlower⟩

/-- The emitted mnemonic of a well-formed entry is three letters of the case that the `illegal` bit gives (R72, R281). -/
theorem emittedMnemonic_fits {p : Params} (hp : p.wellFormed = true) {e : OpcodeEntry} (he : e.wellFormed = true) :
    (emittedMnemonic p e).length = 3 ∧
      ∀ c ∈ emittedMnemonic p e, if e.illegal then isLower c = true else isUpper c = true := by
  rw [entry_wellFormed_iff] at he
  unfold emittedMnemonic
  cases hi : e.illegal with
  | false => simpa [hi] using he
  | true => simpa using spelling_fits hp (by simpa [hi] using he)

theorem toNat_lt_of_isUpper {c : Char} (h : isUpper c = true) : c.toNat < 128 := by
  simp only [isUpper, Bool.and_eq_true, decide_eq_true_eq] at h
  exact h.2.trans_lt (by decide)

theorem toNat_lt_of_isLower {c : Char} (h : isLower c = true) : c.toNat < 128 := by
  simp only [isLower, Bool.and_eq_true, decide_eq_true_eq] at h
  exact h.2.trans_lt (by decide)

theorem isAscii_emittedMnemonic {p : Params} (hp : p.wellFormed = true) {e : OpcodeEntry} (he : e.wellFormed = true) :
    isAscii (emittedMnemonic p e) = true := by
  obtain ⟨-, hletters⟩ := emittedMnemonic_fits hp he
  refine List.all_eq_true.2 fun c hc => decide_eq_true ?_
  have hletter := hletters c hc
  split at hletter
  · exact toNat_lt_of_isLower hletter
  · exact toNat_lt_of_isUpper hletter

theorem asciiTexts_iff {r : Record} :
    r.asciiTexts = true ↔
      isAscii r.mnemonic = true ∧ isAscii r.operandText = true ∧ isAscii r.lineText = true := by
  simp [Record.asciiTexts, and_assoc]

/-- R8: the texts of a record are ASCII where the spec allows the parameters. -/
theorem makeRecord_asciiTexts {p : Params} (hp : p.wellFormed = true) (c : Nat) (l : Addr) (b0 b1 b2 : Byte) :
    (makeRecord p c l b0 b1 b2).asciiTexts = true := by
  have hm := isAscii_emittedMnemonic hp (lookup_wellFormed hp b0)
  have ht := isAscii_formatOperand p.relFormat (lookup p.rom b0).mode b1 b2 c l
  exact asciiTexts_iff.2 ⟨hm, ht, isAscii_line hm ht⟩

end Sys2Proof.Machine
end

section
/-! SUPPORT. How records are appended to a tiling and to a list of the buffer's bytes (spec/41_decode_sequencer.md R118,
R120), and which bytes such a list depends on (spec/20_memory.md R42). -/

namespace Sys2Proof.Machine

theorem tiles_append {l : Addr} {e c c' : Nat} {rs qs : List Record} :
    Tiles l e c (rs ++ qs) c' ↔ ∃ d, Tiles l e c rs d ∧ Tiles l e d qs c' := by
  induction rs generalizing c with
  | nil => simp [Tiles]
  | cons r rs ih => simp only [List.cons_append, Tiles, ih]; tauto

theorem listsBytes_append {p : Params} {m : Memory} {l : Addr} {e c c' : Nat} {rs qs : List Record} :
    ListsBytes p m l e c (rs ++ qs) c' ↔ ∃ d, ListsBytes p m l e c rs d ∧ ListsBytes p m l e d qs c' := by
  induction rs generalizing c with
  | nil => simp [ListsBytes]
  | cons r rs ih => simp only [List.cons_append, ListsBytes, ih]; tauto

/-- One record of the buffer's bytes is a tiling of its own bytes (R116, R117). -/
theorem tiles_recordAt (p : Params) (m : Memory) (l : Addr) {e c : Nat} (hc : c < e) :
    Tiles l e c [recordAt p m l c] (c + (recordAt p m l c).length) := by
  obtain ⟨hpos, hle, hraw⟩ := recordAt_length p m l c
  exact ⟨hc, rfl, hraw, hpos, hle, rfl⟩

theorem listsBytes_recordAt (p : Params) (m : Memory) (l : Addr) {e c : Nat} (hc : c < e) :
    ListsBytes p m l e c [recordAt p m l c] (c + (recordAt p m l c).length) := ⟨hc, rfl, rfl⟩

/-- A record depends on its opcode byte and the two bytes after it. -/
theorem recordAt_congr {p : Params} {m m' : Memory} {l : Addr} {c : Nat}
    (h : ∀ o, c ≤ o → o < c + 3 → Memory.read m' o = Memory.read m o) : recordAt p m' l c = recordAt p m l c := by
  unfold recordAt
  rw [h c (by omega) (by omega), h (c + 1) (by omega) (by omega), h (c + 2) (by omega) (by omega)]

/-- What the bytes from `c` on hold depends on no byte before `c` and on none past the pad (R42). -/
theorem listsBytes_congr {p : Params} {m m' : Memory} {l : Addr} {e c c' : Nat} {rs : List Record}
    (h : ∀ o, c ≤ o → o < e + Config.pad → Memory.read m' o = Memory.read m o) (hl : ListsBytes p m l e c rs c') :
    ListsBytes p m' l e c rs c' := by
  induction rs generalizing c with
  | nil => exact hl
  | cons r rs ih =>
    obtain ⟨hc, hr, hrest⟩ := hl
    refine ⟨hc, ?_, ih (fun o ho => h o (by omega)) hrest⟩
    rw [hr, recordAt_congr fun o ho ho' => h o ho (by simp only [Config.pad]; omega)]

end Sys2Proof.Machine
end

section
/-! SUPPORT. Each thing that a step can do keeps the invariant, and the two statements: O43 and O56. -/

namespace Sys2Proof.Machine

theorem inv_dropMove {s : State} (h : s.Inv) : (dropMove s).Inv :=
  ⟨h.params, h.bufWf, h.bufIn, h.idle, h.ascii, h.inBuf, h.tiles, h.lists, h.done⟩

theorem inv_refuseStart {s : State} (h : s.Inv) (code : RefusalCode) : (refuseStart code s).Inv :=
  ⟨h.params, h.bufWf, h.bufIn, h.idle, h.ascii, h.inBuf, h.tiles, h.lists, h.done⟩

/-- An accepted request fits the buffer, and has no record yet (R111, R112). -/
theorem inv_acceptStart {s : State} (h : s.Inv) {r : Request} (hfit : r.start + r.len + Config.pad ≤ s.params.bufSize) :
    (acceptStart r s).Inv where
  params := h.params
  bufWf := h.bufWf
  bufIn := h.bufIn
  idle _ := rfl
  ascii := by simp
  inBuf _ := ⟨Nat.le_add_right _ _, hfit⟩
  tiles _ := rfl
  lists _ := rfl
  done := by simp

theorem inv_startCommand {s : State} (h : s.Inv) (r : Request) : (startCommand r s).Inv := by
  obtain ⟨-, hfit, heq⟩ | ⟨code, -, heq⟩ := startCommand_cases r s
  · rw [heq]; exact inv_acceptStart h hfit
  · rw [heq]; exact inv_refuseStart h code

theorem inv_resetBlock {s : State} (h : s.Inv) : (resetBlock s).Inv where
  params := h.params
  bufWf := h.bufWf
  bufIn := h.bufIn
  idle _ := rfl
  ascii := by simp
  inBuf := by simp
  tiles := by simp
  lists := by simp
  done := by simp

/-- The finishing step, at the end of the data (R119). -/
theorem inv_finish {s : State} (h : s.Inv) (hb : s.phase = .busy) (hend : s.dataEnd ≤ s.cursor) : (finish s).Inv where
  params := h.params
  bufWf := h.bufWf
  bufIn := h.bufIn
  idle := by simp
  ascii := h.ascii
  inBuf _ := h.inBuf (by simp [hb])
  tiles _ := h.tiles (by simp [hb])
  lists := by simp
  done _ := hend

/-- The decode step appends the record of the bytes at the cursor and moves past them (R114, R118). -/
theorem inv_decode {s : State} (h : s.Inv) (hd : s.Decoding) :
    (setCursor (s.cursor + (recordAt s.params s.buf s.load s.cursor).length)
      (emit (recordAt s.params s.buf s.load s.cursor) s)).Inv := by
  obtain ⟨hb, hc⟩ := hd
  have hi : s.phase ≠ .idle := by simp [hb]
  exact
    { params := h.params
      bufWf := h.bufWf
      bufIn := h.bufIn
      idle := fun hp => absurd hp hi
      ascii := by
        simp only [setCursor_out, emit_out, List.forall_mem_append, List.forall_mem_singleton]
        exact ⟨h.ascii, makeRecord_asciiTexts h.params _ _ _ _ _⟩
      inBuf := fun _ => h.inBuf hi
      tiles := fun _ => tiles_append.2 ⟨_, h.tiles hi, tiles_recordAt _ _ _ hc⟩
      lists := fun _ => listsBytes_append.2 ⟨_, h.lists hb, listsBytes_recordAt _ _ _ hc⟩
      done := by simp [hb] }

theorem inv_blockStep {s t : State} (h : s.Inv) (hstep : blockStep s = .next t) : t.Inv := by
  obtain ⟨hd, -, rfl⟩ | ⟨hb, hend, rfl⟩ | ⟨-, rfl⟩ := blockStep_next hstep
  · exact inv_decode h hd
  · exact inv_finish h hb hend
  · exact h

/-- The host's write stays in the buffer and, while Busy, out of the range that the records read (R315, R336). -/
theorem inv_hostWrite {s t : State} {o : Nat} {v : Byte} (h : s.Inv) (hw : hostWrite o v s = .next t) : t.Inv := by
  obtain ⟨ho, hprot, rfl⟩ := hostWrite_next hw
  exact
    { params := h.params
      bufWf := Memory.write_wf h.bufWf o v
      bufIn := fun c hc => by
        obtain hco | hold := Memory.mem_write hc
        · rw [hco]; exact ho
        · exact h.bufIn c hold
      idle := h.idle
      ascii := h.ascii
      inBuf := h.inBuf
      tiles := h.tiles
      lists := fun hb => by
        refine listsBytes_congr (fun x hlo hhi => Memory.read_write_other h.bufWf v ?_) (h.lists hb)
        rintro rfl
        exact isProtected_eq_false.1 hprot ⟨hb, hlo, hhi⟩
      done := h.done }

/-- Settles O43, by what the host does in the step. -/
theorem everyStepKeepsTheInvariant : Obligations.EveryStepKeepsTheInvariant := by
  unfold Obligations.EveryStepKeepsTheInvariant
  intro s t h hstep
  have hdrop := inv_dropMove h
  obtain ⟨-, hblock⟩ | ⟨r, -, -, rfl⟩ | ⟨-, rfl⟩ | ⟨o, v, -, -, hwrite⟩ := step_next hstep
  · exact inv_blockStep hdrop hblock
  · exact inv_startCommand hdrop r
  · exact inv_resetBlock hdrop
  · exact inv_hostWrite hdrop hwrite

/-- What an instruction's meaning can answer: the state after a decode step of its opcode byte. -/
theorem exec_next {i : Instr} {s t : State} (h : exec i s = .next t) :
    s.phase = .busy ∧ s.cursor < s.dataEnd ∧ ∃ b1 b2, t = afterDecode (i.byte 0) b1 b2 s := by
  rw [exec_eq_decodeStep, decodeStep_next_iff] at h
  obtain ⟨hb, hc, -, ht⟩ := h
  exact ⟨hb, hc, _, _, ht⟩

/-- Settles O56: the record that an instruction appends is ASCII, and the invariant says so of all of OUT. -/
theorem emittedTextIsAscii : Obligations.EmittedTextIsAscii := by
  unfold Obligations.EmittedTextIsAscii
  refine ⟨fun i s t hp hexec => ?_, fun s t hinv hstep r hr => ?_⟩
  · obtain ⟨-, -, b1, b2, rfl⟩ := exec_next hexec
    exact ⟨_, afterDecode_out _ _ _ _, asciiTexts_iff.1 (makeRecord_asciiTexts hp _ _ _ _ _)⟩
  · exact asciiTexts_iff.1 ((everyStepKeepsTheInvariant s t hinv hstep).ascii r hr)

end Sys2Proof.Machine
end

section
/-! SUPPORT. What a step does to the phase and to OUT, said once (spec/10_state.md R22, R26), and the two statements that
follow from it: O51 and O52. -/

namespace Sys2Proof.Machine

/-- The block's own step keeps the phase and at most appends to OUT, or it is the finishing step (R114, R119, R124). -/
theorem blockStep_phase_out {s t : State} (h : blockStep s = .next t) :
    (t.phase = s.phase ∧ ∃ records, t.out = s.out ++ records) ∨
    (s.phase = .busy ∧ t.phase = .done ∧ s.dataEnd ≤ s.cursor ∧ t.out = s.out) := by
  obtain ⟨-, -, rfl⟩ | ⟨hb, hend, rfl⟩ | ⟨-, rfl⟩ := blockStep_next h
  · exact .inl ⟨rfl, [_], rfl⟩
  · exact .inr ⟨hb, rfl, hend, rfl⟩
  · exact .inl ⟨rfl, [], by simp⟩

/-- What a step does to the phase and to OUT: it keeps the phase and at most appends, or it is the finishing step, an
accepted Start, or a reset (R112, R119, R332). -/
theorem step_phase_out {s t : State} (h : step s = .next t) :
    (t.phase = s.phase ∧ ∃ records, t.out = s.out ++ records) ∨
    (s.phase = .busy ∧ t.phase = .done ∧ s.dataEnd ≤ s.cursor ∧ t.out = s.out) ∨
    (s.phase ≠ .busy ∧ (∃ r more, s.hostMoves = .start r :: more) ∧ t.reply = some .accepted ∧ t.phase = .busy ∧
      t.out = []) ∨
    ((∃ more, s.hostMoves = .reset :: more ∨ ∃ r, s.hostMoves = .resetAndStart r :: more) ∧ t.phase = .idle ∧
      t.out = []) := by
  obtain ⟨-, hblock⟩ | ⟨r, more, hmove, rfl⟩ | ⟨hmove, rfl⟩ | ⟨o, v, -, -, hwrite⟩ := step_next h
  · obtain hkeep | hfinish := blockStep_phase_out hblock
    · exact .inl hkeep
    · exact .inr (.inl hfinish)
  · obtain ⟨hb, -, heq⟩ | ⟨code, -, heq⟩ := startCommand_cases r (dropMove s)
    · rw [heq]; exact .inr (.inr (.inl ⟨hb, ⟨r, more, hmove⟩, rfl, rfl, rfl⟩))
    · rw [heq]; exact .inl ⟨rfl, [], by simp⟩
  · exact .inr (.inr (.inr ⟨hmove, rfl, rfl⟩))
  · obtain ⟨-, -, rfl⟩ := hostWrite_next hwrite
    exact .inl ⟨rfl, [], by simp⟩

/-- Settles O51: only an accepted Start and a reset do anything to OUT but append. -/
theorem emittedRecordsNeverChange : Obligations.EmittedRecordsNeverChange := by
  unfold Obligations.EmittedRecordsNeverChange
  intro s t hstep
  obtain ⟨-, happend⟩ | ⟨-, -, -, hout⟩ | ⟨-, ⟨r, more, hmove⟩, hreply, hbusy, hout⟩ | ⟨⟨more, hmove⟩, hidle, hout⟩ :=
    step_phase_out hstep
  · exact .inl happend
  · exact .inl ⟨[], by simp [hout]⟩
  · exact .inr (.inl ⟨r, more, hmove, hreply, hbusy, hout⟩)
  · exact .inr (.inr ⟨more, hmove, hidle, hout⟩)

/-- Settles O52: the moves of the phase by the kind of step, and the invariant says that OUT is empty in Idle. -/
theorem phaseMovesOnlyAsListed : Obligations.PhaseMovesOnlyAsListed := by
  unfold Obligations.PhaseMovesOnlyAsListed
  refine ⟨fun s t hstep => ?_, fun s t hinv hstep => (everyStepKeepsTheInvariant s t hinv hstep).idle⟩
  obtain ⟨hphase, -⟩ | hfinish | ⟨hb, hmove, hreply, hbusy, -⟩ | ⟨hmove, hidle, -⟩ := step_phase_out hstep
  · exact .inl hphase
  · exact .inr (.inr (.inl hfinish))
  · exact .inr (.inl ⟨hb, hbusy, hreply, hmove⟩)
  · exact .inr (.inr (.inr ⟨hidle, hmove⟩))

end Sys2Proof.Machine
end

section
/-! SUPPORT. How far the records of a tiling can reach (spec/20_memory.md R42), and the statement that the cursor stays
within that, in the buffer and in its width (spec/10_state.md R24): O54. -/

namespace Sys2Proof.Machine

/-- A tiling ends where it began or later. -/
theorem le_of_tiles {l : Addr} {e c c' : Nat} {rs : List Record} (h : Tiles l e c rs c') : c ≤ c' := by
  induction rs generalizing c with
  | nil => exact Nat.le_of_eq h
  | cons r rs ih =>
    obtain ⟨-, -, -, -, -, hrest⟩ := h
    exact (Nat.le_add_right _ _).trans (ih hrest)

/-- The last record of a tiling begins before the end of the data and has at most three bytes, so it ends in the pad
at the latest (R42, R120). -/
theorem tiles_le_pad {l : Addr} {e c c' : Nat} {rs : List Record} (h : Tiles l e c rs c') (hc : c ≤ e + Config.pad) :
    c' ≤ e + Config.pad := by
  induction rs generalizing c with
  | nil => exact h ▸ hc
  | cons r rs ih =>
    obtain ⟨hlt, -, -, -, hlen, hrest⟩ := h
    exact ih hrest (by simp only [Config.pad]; omega)

/-- Settles O54: OUT tiles the bytes from START to the cursor, and the data and its pad lie in the buffer. -/
theorem cursorStaysInsideTheBuffer : Obligations.CursorStaysInsideTheBuffer := by
  unfold Obligations.CursorStaysInsideTheBuffer
  intro s hinv hi
  obtain ⟨hstart, hfit⟩ := hinv.inBuf hi
  have hpad : s.cursor ≤ s.dataEnd + Config.pad :=
    tiles_le_pad (hinv.tiles hi) (hstart.trans (Nat.le_add_right _ _))
  have hsize : s.params.bufSize < 2 ^ s.params.offsetBits :=
    of_decide_eq_true (params_wellFormed_iff.1 hinv.params).1
  have hbuf : s.cursor ≤ s.params.bufSize := hpad.trans hfit
  exact ⟨le_of_tiles (hinv.tiles hi), hpad, hbuf, hbuf.trans_lt hsize⟩

end Sys2Proof.Machine
end

section
/-! SUPPORT. What the block leaves unchanged (spec/20_memory.md R41): the buffer and the parameters, O53. -/

namespace Sys2Proof.Machine

/-- The block's own step leaves what the host and the request have set, and the cursor never goes back (R41, R118). -/
theorem blockStep_frame {s t : State} (h : blockStep s = .next t) :
    t.params = s.params ∧ t.buf = s.buf ∧ t.hostMoves = s.hostMoves ∧ t.dataEnd = s.dataEnd ∧ s.cursor ≤ t.cursor := by
  obtain ⟨-, -, rfl⟩ | ⟨-, -, rfl⟩ | ⟨-, rfl⟩ := blockStep_next h
  · exact ⟨rfl, rfl, rfl, rfl, Nat.le_add_right _ _⟩
  · exact ⟨rfl, rfl, rfl, rfl, le_rfl⟩
  · exact ⟨rfl, rfl, rfl, rfl, le_rfl⟩

/-- A Start writes neither the buffer nor the parameters, accepted or refused (R112, R302). -/
theorem startCommand_frame (r : Request) (s : State) :
    (startCommand r s).params = s.params ∧ (startCommand r s).buf = s.buf := by
  obtain ⟨-, -, heq⟩ | ⟨code, -, heq⟩ := startCommand_cases r s <;> rw [heq] <;> exact ⟨rfl, rfl⟩

/-- No step writes the parameters, and only the host's write changes the buffer (R41, R315). -/
theorem step_frame {s t : State} (h : step s = .next t) :
    t.params = s.params ∧ (t.buf = s.buf ∨ ∃ o v more, s.hostMoves = .write o v :: more) := by
  obtain ⟨-, hblock⟩ | ⟨r, -, -, rfl⟩ | ⟨-, rfl⟩ | ⟨o, v, more, hmove, hwrite⟩ := step_next h
  · obtain ⟨hparams, hbuf, -⟩ := blockStep_frame hblock
    exact ⟨hparams, .inl hbuf⟩
  · obtain ⟨hparams, hbuf⟩ := startCommand_frame r (dropMove s)
    exact ⟨hparams, .inl hbuf⟩
  · exact ⟨rfl, .inl rfl⟩
  · obtain ⟨-, -, rfl⟩ := hostWrite_next hwrite
    exact ⟨rfl, .inr ⟨o, v, more, hmove⟩⟩

/-- Settles O53: an instruction's meaning is a decode step, and a step is the block's or a move of the host. -/
theorem blockWritesNoMemory : Obligations.BlockWritesNoMemory := by
  unfold Obligations.BlockWritesNoMemory
  refine ⟨fun i s t hexec => ?_, fun s t hstep => ?_⟩
  · obtain ⟨-, -, b1, b2, rfl⟩ := exec_next hexec
    exact ⟨rfl, rfl, fun _ => rfl⟩
  · obtain ⟨hparams, hbuf | ⟨o, v, more, hmove⟩⟩ := step_frame hstep
    · exact ⟨hparams, fun _ => hbuf⟩
    · exact ⟨hparams, fun hno => absurd hmove (hno o v more)⟩

end Sys2Proof.Machine
end

section
/-! SUPPORT. Which bytes of the buffer a step and a run read (spec/20_memory.md R42, R51): those from the cursor to the end
of the pad. Hence the two statements O46 and O47. -/

namespace Sys2Proof.Machine

/-- The block's own step reads no byte outside those from the cursor to the end of the pad (R42), and writes none. -/
theorem blockStep_withBuf {s t : State} {m : Memory}
    (hread : ∀ o, s.cursor ≤ o → o < s.dataEnd + Config.pad → Memory.read m o = Memory.read s.buf o)
    (h : blockStep s = .next t) : blockStep { s with buf := m } = .next { t with buf := m } := by
  obtain ⟨hd, hle, rfl⟩ | ⟨hb, hend, rfl⟩ | ⟨hb, ht⟩ := blockStep_next h
  · have hc : s.cursor < s.dataEnd := hd.2
    have hrec : recordAt s.params m s.load s.cursor = recordAt s.params s.buf s.load s.cursor :=
      recordAt_congr fun o hlo hhi => hread o hlo (by simp only [Config.pad]; omega)
    rw [← hrec] at hle ⊢
    exact blockStep_of_decoding (s := { s with buf := m }) hd hle
  · exact blockStep_of_end (s := { s with buf := m }) hb hend
  · rw [ht]; exact blockStep_of_not_busy (s := { s with buf := m }) hb

/-- Settles O46: the invariant puts the cursor at START or behind it, and the step reads from the cursor on. -/
theorem stepReadsOnlyTheRequestsBytes : Obligations.StepReadsOnlyTheRequestsBytes := by
  unfold Obligations.StepReadsOnlyTheRequestsBytes
  intro s t m hinv hb hquiet hread hstep
  have hstart : s.reqStart ≤ s.cursor := le_of_tiles (hinv.tiles (by simp [hb]))
  rw [step_of_quiet hquiet] at hstep
  rw [step_of_quiet (s := { s with buf := m }) hquiet]
  exact blockStep_withBuf (fun o hlo hhi => hread o (hstart.trans hlo) hhi) hstep

/-- Where the running request's data and pad lie in the buffer, the block's own step answers a next state (R42, R111). -/
theorem blockStep_total {s : State} (hfit : s.phase = .busy → s.dataEnd + Config.pad ≤ s.params.bufSize) :
    ∃ t, blockStep s = .next t := by
  by_cases hb : s.phase = .busy
  · by_cases hc : s.cursor < s.dataEnd
    · obtain ⟨-, hlen, -⟩ := recordAt_length s.params s.buf s.load s.cursor
      have hpad := hfit hb
      simp only [Config.pad] at hpad
      exact ⟨_, blockStep_of_decoding ⟨hb, hc⟩ (by omega)⟩
    · exact ⟨_, blockStep_of_end hb (Nat.not_lt.1 hc)⟩
  · exact ⟨_, blockStep_of_not_busy hb⟩

/-- A run in which the host presents nothing reads no byte outside those from the cursor to the end of the pad: it goes the
same way in every buffer with these bytes (R42, R51). -/
theorem run_withBuf (k : Nat) {s : State} {m : Memory} (hquiet : s.hostMoves = [])
    (hfit : s.dataEnd + Config.pad ≤ s.params.bufSize)
    (hread : ∀ o, s.cursor ≤ o → o < s.dataEnd + Config.pad → Memory.read m o = Memory.read s.buf o) :
    ∃ t, run k s = .next t ∧ run k { s with buf := m } = .next { t with buf := m } := by
  induction k generalizing s with
  | zero => exact ⟨s, rfl, rfl⟩
  | succ k ih =>
    obtain ⟨u, hu⟩ := blockStep_total fun _ => hfit
    obtain ⟨hparams, hbuf, hmoves, hend, hcursor⟩ := blockStep_frame hu
    rw [run_succ_of_next ((step_of_quiet hquiet).trans hu),
      run_succ_of_next ((step_of_quiet (s := { s with buf := m }) hquiet).trans (blockStep_withBuf hread hu))]
    refine ih (hmoves.trans hquiet) (by rwa [hend, hparams]) fun o hlo hhi => ?_
    rw [hbuf]
    exact hread o (hcursor.trans hlo) (hend ▸ hhi)

/-- The step of a Start that is accepted (R111, R112). -/
theorem step_of_acceptedStart {s : State} {r : Request} {more : List HostMove} (hmove : s.hostMoves = .start r :: more)
    (hb : s.phase ≠ .busy) (hfit : r.start + r.len + Config.pad ≤ s.params.bufSize) :
    step s = .next (acceptStart r (dropMove s)) := by
  have haccept : startRefusal r (dropMove s) = none := startRefusal_eq_none.2 ⟨hb, hfit⟩
  simp [step, stepOf, hmove, startCommand, haccept]

/-- Settles O47: the accepted Start sets all that a request depends on but the buffer, so the two states after it differ
in the buffer alone, and there the bytes that the run reads are the same. -/
theorem sameRequestSameOutput : Obligations.SameRequestSameOutput := by
  unfold Obligations.SameRequestSameOutput
  intro s₁ s₂ r k hb₁ hb₂ hmove₁ hmove₂ hparams hfit hread
  have hstart : acceptStart r (dropMove s₂) = { acceptStart r (dropMove s₁) with buf := s₂.buf } := by
    simp [acceptStart, dropMove, hmove₁, hmove₂, hparams]
  obtain ⟨t, hrun₁, hrun₂⟩ := run_withBuf k (s := acceptStart r (dropMove s₁)) (m := s₂.buf)
    (by simp [hmove₁]) hfit fun o hlo hhi => (hread o hlo hhi).symm
  refine ⟨t, { t with buf := s₂.buf }, ?_, ?_, rfl, rfl⟩
  · rw [run_succ_of_next (step_of_acceptedStart hmove₁ hb₁ hfit), hrun₁]
  · rw [run_succ_of_next (step_of_acceptedStart hmove₂ hb₂ (hparams ▸ hfit)), hstart, hrun₂]

end Sys2Proof.Machine
end

section
/-! SUPPORT. Where an instruction's meaning stops (spec/20_memory.md R40; spec/70_reset_and_hazards.md R331): outside a
request's data, and at the first operand byte that neither the instruction nor the buffer has. Hence O23. -/

namespace Sys2Proof.Machine

theorem decodeStep_of_idle {s : State} (hi : s.phase = .idle) (b0 : Byte) (carried : List Byte) :
    decodeStep b0 carried s = .fault (.unwrittenRegister .cursor) := by
  simp [decodeStep, readCursor, readRegister_of_idle hi]

theorem decodeStep_of_not_decoding {s : State} (hi : s.phase ≠ .idle) (hd : ¬s.Decoding) (b0 : Byte)
    (carried : List Byte) : decodeStep b0 carried s = .fault .noDecodeStep := by
  simp only [decodeStep, readCursor, readDataEnd, readLoad, readRegister_of_ne hi, orFault_ok, if_neg hd]

/-- Where the block decodes, a decode step gets its two operand bytes and answers the state after them (R114). -/
theorem decodeStep_eq_of_decoding {s : State} (hd : s.Decoding) (b0 : Byte) (carried : List Byte) :
    decodeStep b0 carried s =
      orFault (operandByte s s.cursor (lookup s.params.rom b0).mode.operandBytes carried 1) fun b1 =>
      orFault (operandByte s s.cursor (lookup s.params.rom b0).mode.operandBytes carried 2) fun b2 =>
        .next (afterDecode b0 b1 b2 s) := by
  have hi : s.phase ≠ .idle := by simp [hd.1]
  simp only [decodeStep, readCursor, readDataEnd, readLoad, readRegister_of_ne hi, orFault_ok, if_pos hd, afterDecode]

/-- An operand byte that the mode has and the instruction does not carry is the buffer's (assumption 20). -/
theorem operandByte_of_not_carried {s : State} {c n k : Nat} {carried : List Byte} (hk : k ≤ n)
    (hc : carried.length < k) : operandByte s c n carried k = readByte s (c + k) := by
  simp [operandByte, Nat.not_lt.2 hk, List.getElem?_eq_none (show carried.length ≤ k - 1 by omega)]

theorem readByte_of_le {s : State} {o : Nat} (h : s.params.bufSize ≤ o) :
    readByte s o = .error (.readOutsideBuf o) := by simp [readByte, Nat.not_lt.2 h]

/-- The first operand byte is there where the instruction carries it or the buffer has it. -/
theorem operandByte_one_ok {s : State} {c n : Nat} {carried : List Byte}
    (h : carried ≠ [] ∨ c + 1 < s.params.bufSize) : ∃ b, operandByte s c n carried 1 = .ok b := by
  cases carried with
  | nil =>
    have hlt : c + 1 < s.params.bufSize := by simpa using h
    by_cases hn : n < 1
    · exact ⟨0, if_pos hn⟩
    · exact ⟨_, by rw [operandByte_of_not_carried (Nat.not_lt.1 hn) (by simp), readByte_of_lt hlt]⟩
  | cons b bs => by_cases hn : n < 1 <;> simp [operandByte, hn]

/-- Where the instruction carries too few operand bytes and the buffer ends before them, the decode step faults at the
first missing one that is outside the buffer (assumptions 15 and 20). -/
theorem decodeStep_of_short {s : State} (hd : s.Decoding) {b0 : Byte} {carried : List Byte}
    (hcarried : carried.length < (lookup s.params.rom b0).mode.operandBytes)
    (hbuf : s.params.bufSize < s.cursor + 1 + (lookup s.params.rom b0).mode.operandBytes) :
    decodeStep b0 carried s =
      .fault (.readOutsideBuf (max (s.cursor + 1 + carried.length) s.params.bufSize)) := by
  have hn := operandBytes_le (lookup s.params.rom b0).mode
  rw [decodeStep_eq_of_decoding hd]
  by_cases hfirst : carried.length = 0 ∧ s.params.bufSize ≤ s.cursor + 1
  · obtain ⟨hnone, hend⟩ := hfirst
    rw [operandByte_of_not_carried (by omega) (by omega), readByte_of_le hend, orFault_error]
    congr 2; omega
  · obtain ⟨b1, h1⟩ := operandByte_one_ok (s := s) (c := s.cursor) (carried := carried)
      (n := (lookup s.params.rom b0).mode.operandBytes) (by rw [← List.length_pos_iff]; omega)
    rw [h1, orFault_ok, operandByte_of_not_carried (by omega) (by omega), readByte_of_le (by omega), orFault_error]
    congr 2; omega

theorem length_encode_tail (i : Instr) : (encode i).tail.length + 1 = (encode i).length := by
  have := encode_length i
  rw [List.length_tail]; omega

/-- Settles O23: an instruction's meaning is the decode step of its bytes, whose stops are these. -/
theorem instructionsRunOnlyWhereTheBlockDecodes : Obligations.InstructionsRunOnlyWhereTheBlockDecodes := by
  unfold Obligations.InstructionsRunOnlyWhereTheBlockDecodes
  refine ⟨fun i s hd => ?_, fun i s hd => ?_⟩
  · rw [exec_eq_decodeStep]
    exact ⟨fun hi => decodeStep_of_idle hi _ _, fun hi => decodeStep_of_not_decoding hi hd _ _⟩
  · have htail := length_encode_tail i
    rw [exec_eq_decodeStep, ← byte_zero]
    refine ⟨fun hroom => ?_, fun hcarried hbuf => ?_⟩
    · exact ⟨_, decodeStep_of_decoding hd.1 hd.2 (by unfold HasOperands; omega)⟩
    · rw [decodeStep_of_short hd (by omega) (by omega)]
      congr 3; omega

end Sys2Proof.Machine
end

section
/-! SUPPORT. The value of a two-byte operand (spec/20_memory.md R45), and the statement of its order: O20. -/

namespace Sys2Proof.Machine

theorem word16_toNat (b1 b2 : Byte) : (word16 b1 b2).toNat = b1.toNat + 256 * b2.toNat :=
  (BitVec.toNat_ofNat _ _).trans (Nat.mod_eq_of_lt (by omega))

/-- The second operand byte stands before the first one as bits (R45). -/
theorem word16_eq_append (b1 b2 : Byte) : word16 b1 b2 = b2 ++ b1 := by
  apply BitVec.eq_of_toNat_eq
  rw [word16_toNat, BitVec.toNat_append, ← Nat.shiftLeft_add_eq_or_of_lt b1.isLt, Nat.shiftLeft_eq]
  omega

/-- In mode Absolute the record's value is that of the two operand bytes (R45, R132). -/
theorem makeRecord_operandValue_of_absolute {p : Params} {b0 : Byte} (hm : (lookup p.rom b0).mode = .absolute) (c : Nat)
    (l : Addr) (b1 b2 : Byte) : (makeRecord p c l b0 b1 b2).operandValue = some (.addr (word16 b1 b2)) := by
  simp [makeRecord, hm, formatOperand, plainOperand]

/-- Settles O20: the bytes 4C 00 10 are JMP 0x1000. -/
theorem twoByteOperandsAreLittleEndian : Obligations.TwoByteOperandsAreLittleEndian := by
  unfold Obligations.TwoByteOperandsAreLittleEndian
  refine ⟨fun b1 b2 => ⟨word16_toNat b1 b2, word16_eq_append b1 b2⟩, fun s hd hm => ?_⟩
  have hlen : (encode (.jmpAbs 0x00 0x10)).length =
      1 + (lookup s.params.rom ((Instr.jmpAbs 0x00 0x10).byte 0)).mode.operandBytes :=
    congrArg (1 + Mode.operandBytes ·) hm.symm
  exact ⟨.jmpAbs 0x00 0x10, _, _, rfl, exec_of_decoding hd.1 hd.2 hlen, afterDecode_out _ _ _ _,
    makeRecord_operandValue_of_absolute hm _ _ _ _⟩

end Sys2Proof.Machine
end

section
/-! SUPPORT. The decoder and the encoder as inverses (spec/30_encoding.md R60, R61, R64), and the statements of the
encoding: O14, O15, O16 and the sample words of O13. -/

namespace Sys2Proof.Machine

/-- Settles O14: an instruction is its opcode byte and as many operand bytes as its mode needs, and those decode to
it. -/
theorem decodeInvertsEncode : Obligations.DecodeInvertsEncode := by
  unfold Obligations.DecodeInvertsEncode
  intro i rest
  rw [encode_eq_take, decode_take_append, instrOf_bytes]

/-- What decodes is an opcode byte and as many operand bytes as its mode needs, then the rest (R60, R64). -/
theorem bytes_of_decode_ok {bytes rest : List Byte} {i : Instr} (h : decode bytes = .ok (i, rest)) :
    ∃ b0 b1 b2, i = instrOf b0 b1 b2 ∧
      bytes = [b0, b1, b2].take (1 + (lookup defaultRom b0).mode.operandBytes) ++ rest := by
  unfold decode at h
  split at h
  case h_1 => cases h
  case h_2 b0 tail =>
    simp only [Mode.operandBytes]
    split at h
    case h_1 hf => cases h; exact ⟨b0, 0, 0, rfl, by rw [hf]; rfl⟩
    case h_2 o left hf => cases h; exact ⟨b0, o, 0, rfl, by rw [hf]; rfl⟩
    case h_3 lo hi left hf => cases h; exact ⟨b0, lo, hi, rfl, by rw [hf]; rfl⟩
    all_goals cases h

/-- Settles O15: the bytes that decoding reads are those of the instruction that the decoder's table holds for them. -/
theorem encodeInvertsDecode : Obligations.EncodeInvertsDecode := by
  unfold Obligations.EncodeInvertsDecode
  intro bytes i rest h
  obtain ⟨b0, b1, b2, rfl, rfl⟩ := bytes_of_decode_ok h
  rw [encode_instrOf]

/-- Three bytes decode to the instruction of the decoder's table, whatever follows them. -/
theorem decode_cons_cons_cons (b0 b1 b2 : Byte) (rest : List Byte) :
    decode (b0 :: b1 :: b2 :: rest) =
      .ok (instrOf b0 b1 b2, [b0, b1, b2].drop (1 + (lookup defaultRom b0).mode.operandBytes) ++ rest) := by
  rw [← decode_take_append, ← List.append_assoc, List.take_append_drop]
  rfl

/-- Where the block decodes and the host presents nothing, the cursor moves past one record (R114, R118). -/
theorem step_decoding_cursor {s t : State} (hd : s.Decoding) (hquiet : s.hostMoves = []) (h : step s = .next t) :
    t.cursor = s.cursor + (recordAt s.params s.buf s.load s.cursor).length := by
  rw [step_of_quiet hquiet] at h
  obtain ⟨-, -, rfl⟩ | ⟨-, hend, -⟩ | ⟨hbusy, -⟩ := blockStep_next h
  · rfl
  · exact absurd hd.2 (Nat.not_lt.2 hend)
  · exact absurd hd.1 hbusy

/-- Settles O16: the length is that of the default ROM's mode of the first byte, in a step that of the mode which the
state's ROM gives the byte at the cursor, and a mode has at most two operand bytes. -/
theorem opcodeByteFixesTheLength : Obligations.OpcodeByteFixesTheLength := by
  unfold Obligations.OpcodeByteFixesTheLength
  refine ⟨fun b0 b1 b2 rest => ?_, fun s t hd hquiet hstep => ?_⟩
  · have hmode := operandBytes_le (lookup defaultRom b0).mode
    have hlen := encode_length (instrOf b0 b1 b2)
    rw [byte_zero_instrOf] at hlen
    refine ⟨_, _, decode_cons_cons_cons b0 b1 b2 rest, ?_, hlen, by omega, by omega⟩
    rw [encode_instrOf, Nat.add_comm, List.take_succ_cons, List.head?_cons]
  · obtain ⟨hpos, hle, -⟩ := recordAt_length s.params s.buf s.load s.cursor
    rw [step_decoding_cursor hd hquiet hstep]
    exact ⟨rfl, by omega, by omega⟩

/-- Settles O13: each word evaluates to its instruction. -/
theorem sampleWordsDecode : Obligations.SampleWordsDecode := by
  unfold Obligations.SampleWordsDecode
  exact ⟨rfl, rfl, rfl, rfl, rfl, rfl, rfl, rfl, rfl⟩

end Sys2Proof.Machine
end

section
/-! SUPPORT. The letters of a mnemonic (spec/30_encoding.md R72) in every record and in the default ROM, and how many of
that ROM's entries are documented (R67): O55 and O12. -/

namespace Sys2Proof.Machine

/-- A documented entry's mnemonic is emitted as the table has it (R72). -/
theorem emittedMnemonic_of_documented (p : Params) {e : OpcodeEntry} (h : e.illegal = false) :
    emittedMnemonic p e = e.mnemonic := by simp [emittedMnemonic, h]

/-- Settles O55: the record shows the emitted mnemonic of its opcode byte's entry, and the allowed parameters keep every
entry of the ROM well formed. -/
theorem mnemonicsAreThreeLettersInTheRightCase : Obligations.MnemonicsAreThreeLettersInTheRightCase := by
  unfold Obligations.MnemonicsAreThreeLettersInTheRightCase
  intro i s t hp hexec
  obtain ⟨-, -, b1, b2, rfl⟩ := exec_next hexec
  obtain ⟨hlength, hletters⟩ := emittedMnemonic_fits hp (lookup_wellFormed hp (i.byte 0))
  exact ⟨_, afterDecode_out _ _ _ _, hlength, hletters, emittedMnemonic_of_documented s.params⟩

/-- A ROM as the list of its rows' entries is the ROM flattened. -/
theorem toList_flatten_rom (rom : OpcodeRom) : rom.flatten.toList = rom.toList.flatMap Vector.toList :=
  Array.toList_flatten.trans (by rw [Array.toList_map, List.map_map]; rfl)

/-- In that list each entry stands at the place of its opcode byte (R100). -/
theorem entries_getElem? (rom : OpcodeRom) (b : Byte) :
    (rom.toList.flatMap Vector.toList)[b.toNat]? = some (lookup rom b) := by
  rw [← toList_flatten_rom, Vector.getElem?_toList, Vector.getElem?_eq_getElem (by omega), Vector.getElem_flatten]
  rfl

theorem entries_length (rom : OpcodeRom) : (rom.toList.flatMap Vector.toList).length = 256 := by
  rw [← toList_flatten_rom, Vector.length_toList]

/-- Every entry of R67's map has three letters of the right case (R72). -/
theorem lookup_defaultRom_wellFormed (b : Byte) : (lookup defaultRom b).wellFormed = true := by
  revert b
  exact forall_byte (by decide)

/-- How many documented entries each row of R67's map has. -/
theorem documented_in_rows : defaultRom.toList.map (List.countP (fun e => !e.illegal) ∘ Vector.toList) =
    [9, 8, 11, 8, 10, 8, 10, 8, 9, 9, 12, 11, 11, 8, 11, 8] := by decide

theorem documented_entries_length :
    ((defaultRom.toList.flatMap Vector.toList).filter fun e => !e.illegal).length = 151 := by
  rw [← List.countP_eq_length_filter, List.countP_flatMap, documented_in_rows]
  rfl

/-- Settles O12, by the 256 entries and the count of the documented ones; the illegal ones are the others. -/
theorem romEntriesAreWellFormed : Obligations.RomEntriesAreWellFormed := by
  unfold Obligations.RomEntriesAreWellFormed
  have hsplit := List.length_eq_length_filter_add (l := defaultRom.toList.flatMap Vector.toList) (·.illegal)
  rw [entries_length, documented_entries_length] at hsplit
  refine ⟨fun b => ?_, entries_length _, entries_getElem? _, documented_entries_length, by omega, rfl⟩
  have hentry := entry_wellFormed_iff.1 (lookup_defaultRom_wellFormed b)
  simpa using hentry

end Sys2Proof.Machine
end

section
/-! SUPPORT. The three entries of the ROM that the source's worked lookups give (spec/40_opcode_lookup.md R105): O11. -/

namespace Sys2Proof.Machine

/-- Settles O11: after reset the ROM is R67's map, and its rows 1, A and 4 hold these entries in columns 0, 9 and C. -/
theorem romWorkedLookups : Obligations.RomWorkedLookups := by
  unfold Obligations.RomWorkedLookups
  exact ⟨rfl, rfl, rfl⟩

end Sys2Proof.Machine
end

section
/-! SUPPORT. What a step is where the host presents nothing or passes (spec/41_decode_sequencer.md R113, R119, R124): the
meaning of the instruction whose bytes stand at the cursor, the finishing step, or nothing. With the accepted Start (R112)
these are O1, O2, O3 and O9. -/

namespace Sys2Proof.Machine

/-- An explicit pass of the host is taken off its list, and the step is the block's (assumption 5). -/
theorem step_of_pass {s : State} {more : List HostMove} (h : s.hostMoves = .pass :: more) :
    step s = blockStep { s with hostMoves := more } := by
  simp [step, stepOf, dropMove, h]

/-- Where the buffer ends inside the instruction, the fetch stops at the first byte outside (R40, assumption 15). -/
theorem fetch_of_short {s : State} {c : Nat} (hc : c < s.params.bufSize)
    (h : s.params.bufSize < c + 1 + (lookup s.params.rom (Memory.read s.buf c)).mode.operandBytes) :
    fetch s c = .error (.readOutsideBuf s.params.bufSize) := by
  unfold fetch
  rw [readByte_of_lt hc]
  cases hf : (lookup s.params.rom (Memory.read s.buf c)).mode.format <;>
    simp only [Mode.operandBytes, hf, Format.operandBytes] at h ⊢
  · omega
  · rw [readByte_of_le (by omega), show c + 1 = s.params.bufSize by omega]
  · by_cases hfirst : s.params.bufSize ≤ c + 1
    · rw [readByte_of_le hfirst, show c + 1 = s.params.bufSize by omega]
    · rw [readByte_of_lt (by omega), readByte_of_le (by omega), show c + 2 = s.params.bufSize by omega]

/-- What stands at a place of the buffer's bytes is the byte there, and so is what the buffer is asked for past them. -/
theorem getD_bytesAt (m : Memory) (o n k : Nat) :
    (bytesAt m o n).getD k (Memory.read m (o + k)) = Memory.read m (o + k) := by
  by_cases hk : k < n
  · simp [bytesAt, List.getD_eq_getElem?_getD, hk]
  · simp [bytesAt, List.getD_eq_getElem?_getD, Nat.not_lt.1 hk]

theorem getD_tail {α : Type} (l : List α) (k : Nat) (d : α) : l.tail.getD k d = l.getD (k + 1) d := by
  simp [List.getD_eq_getElem?_getD]

/-- The block's step where an instruction's bytes stand at the cursor: with room for as many operand bytes as the ROM
says, both sides are the decode step of the buffer's bytes; otherwise both stop at the end of the buffer (R113, R114). -/
theorem blockStep_eq_exec {s : State} {i : Instr} (hd : s.Decoding) (hin : s.cursor + (encode i).length ≤ s.params.bufSize)
    (hbytes : bytesAt s.buf s.cursor (encode i).length = encode i) : blockStep s = exec i s := by
  have hlen := length_encode_tail i
  have hread : ∀ k, (encode i).getD k (Memory.read s.buf (s.cursor + k)) = Memory.read s.buf (s.cursor + k) := fun k => by
    rw [← hbytes, getD_bytesAt]
  have hopcode : i.byte 0 = Memory.read s.buf s.cursor := by
    rw [← Nat.add_zero s.cursor, ← hread 0]
    cases h : encode i <;> simp_all [Instr.byte]
  rw [exec_eq_decodeStep, hopcode]
  by_cases hroom :
      s.cursor + 1 + (lookup s.params.rom (Memory.read s.buf s.cursor)).mode.operandBytes ≤ s.params.bufSize
  · rw [blockStep_of_decoding hd (by simpa [recordAt, ← Nat.add_assoc] using hroom),
      decodeStep_of_decoding hd.1 hd.2 (.inr hroom), getD_tail, getD_tail, hread 1, hread 2]
    simp only [afterDecode, recordAt, makeRecord_length, Nat.add_assoc]
  · have hi : s.phase ≠ .idle := by simp [hd.1]
    rw [decodeStep_of_short hd (by omega) (by omega)]
    simp only [blockStep, hd.1, readCursor, readDataEnd, readRegister_of_ne hi, orFault_ok, if_pos hd.2,
      fetch_of_short (show s.cursor < s.params.bufSize by omega) (Nat.not_le.1 hroom), orFault_error]
    congr 2; omega

/-- Settles O1: the step is the block's, with an explicit pass taken off the host's list. -/
theorem stepRunsDecodedInstruction : Obligations.StepRunsDecodedInstruction := by
  unfold Obligations.StepRunsDecodedInstruction
  intro s i hd hin hbytes
  refine ⟨fun hquiet => ?_, fun more hpass => ?_⟩
  · rw [step_of_quiet hquiet]
    exact blockStep_eq_exec hd hin hbytes
  · rw [step_of_pass hpass]
    exact blockStep_eq_exec (s := { s with hostMoves := more }) hd hin hbytes

/-- Settles O2, by the block's step at the end of the data. -/
theorem stepFinishesAtDataEnd : Obligations.StepFinishesAtDataEnd := by
  unfold Obligations.StepFinishesAtDataEnd
  intro s hb hend
  refine ⟨fun hquiet => ?_, fun more hpass => ?_⟩
  · rw [step_of_quiet hquiet]
    exact blockStep_of_end hb hend
  · rw [step_of_pass hpass]
    exact blockStep_of_end (s := { s with hostMoves := more }) hb hend

/-- Settles O3: the step of an accepted Start is R112's, on the state with the Start taken off the host's list. -/
theorem acceptedStartSetsRequest : Obligations.AcceptedStartSetsRequest := by
  unfold Obligations.AcceptedStartSetsRequest
  intro s r more hmove hb hfit
  rw [step_of_acceptedStart hmove hb hfit]
  simp [acceptStart, dropMove, hmove]

/-- Settles O9: outside Busy the block's step leaves the state as it is. -/
theorem idleAndDoneWaitForTheHost : Obligations.IdleAndDoneWaitForTheHost := by
  unfold Obligations.IdleAndDoneWaitForTheHost
  intro s hb
  refine ⟨fun hquiet => ?_, fun more hpass => ?_⟩
  · rw [step_of_quiet hquiet]
    exact blockStep_of_not_busy hb
  · rw [step_of_pass hpass]
    exact blockStep_of_not_busy (s := { s with hostMoves := more }) hb

end Sys2Proof.Machine
end

section
/-! SUPPORT. The bytes of an instruction as a word of spec/opcode_table.json, placed in the buffer by `withFetchWord`
(assumption 8; spec/70_reset_and_hazards.md R333), and the statement that the next step runs it: O60. -/

namespace Sys2Proof.Machine

/-- The word made of at most three bytes, the first one lowest, gives these bytes back. -/
theorem take_tableBytes {bytes : List Byte} (h : bytes.length ≤ 3) :
    (tableBytes (8 * bytes.length) (bytes.foldr (fun b w => b.toNat + 256 * w) 0)).take bytes.length = bytes := by
  have byte_eq : ∀ (b : Byte) (n : Nat), n % 256 = b.toNat → BitVec.ofNat 8 n = b := fun b n hn =>
    BitVec.eq_of_toNat_eq ((BitVec.toNat_ofNat n 8).trans hn)
  match bytes, h with
  | [], _ => rfl
  | [b0], _ =>
    simp only [tableBytes, List.length, List.foldr, List.take]
    rw [byte_eq b0 _ (by omega)]
  | [b0, b1], _ =>
    simp only [tableBytes, List.length, List.foldr, List.take]
    rw [byte_eq b0 _ (by omega), byte_eq b1 _ (by omega)]
  | [b0, b1, b2], _ =>
    simp only [tableBytes, List.length, List.foldr, List.take]
    rw [byte_eq b0 _ (by omega), byte_eq b1 _ (by omega), byte_eq b2 _ (by omega)]

/-- The three bytes that `withFetchWord` writes stand at the cursor afterwards. -/
theorem bytesAt_withFetchWord {s : State} (hwf : Memory.wf s.buf) (nbits w : Nat) :
    bytesAt (s.withFetchWord nbits w).buf s.cursor 3 = tableBytes nbits w := by
  have hfirst := Memory.write_wf hwf s.cursor ((tableBytes nbits w).getD 0 0)
  have hsecond := Memory.write_wf hfirst (s.cursor + 1) ((tableBytes nbits w).getD 1 0)
  simp only [State.withFetchWord, bytesAt, Memory.read_write hsecond, Memory.read_write hfirst, Memory.read_write hwf]
  simp [List.range_succ, tableBytes]

theorem take_bytesAt (m : Memory) (o : Nat) {j n : Nat} (h : j ≤ n) : (bytesAt m o n).take j = bytesAt m o j := by
  rw [bytesAt, ← List.map_take, List.take_range, Nat.min_eq_left h, bytesAt]

/-- Where an instruction's word has been placed, its bytes stand at the cursor. -/
theorem bytesAt_withFetchWord_encode {s : State} (hwf : Memory.wf s.buf) (i : Instr) :
    bytesAt (s.withFetchWord (8 * (encode i).length) ((encode i).foldr (fun b w => b.toNat + 256 * w) 0)).buf s.cursor
      (encode i).length = encode i := by
  have hlen : (encode i).length ≤ 3 := by rw [encode_eq_take]; simp
  rw [← take_bytesAt _ _ hlen, bytesAt_withFetchWord hwf, take_tableBytes hlen]

/-- Settles O60: the placed bytes stand at the cursor, before the end of the data and with room for three. -/
theorem placedInstructionRunsNext : Obligations.PlacedInstructionRunsNext := by
  unfold Obligations.PlacedInstructionRunsNext
  intro s i hwf placed
  have hbytes := bytesAt_withFetchWord_encode hwf i
  have hend : s.cursor + max 1 (8 * (encode i).length / 8) ≤ placed.dataEnd := le_max_right _ _
  have hfit : placed.dataEnd + Config.pad ≤ placed.params.bufSize := le_max_right _ _
  have hd : placed.Decoding := ⟨rfl, show s.cursor < _ by omega⟩
  have hstep : step placed = blockStep placed := step_of_quiet rfl
  have hrun : blockStep placed = exec i placed := blockStep_eq_exec hd (show s.cursor + _ ≤ _ by omega) hbytes
  exact ⟨hd, hstep.trans hrun, hstep ▸ blockStep_total fun _ => hfit⟩

end Sys2Proof.Machine
end

section
/-! SUPPORT. The record that an instruction's meaning appends (spec/41_decode_sequencer.md R114 to R118, R125): its bytes,
and what the formatter gives with each mode (spec/42_operand_formatter.md R146). Hence O21 and O22. -/

namespace Sys2Proof.Machine

/-- A decode step changes only OUT and the cursor, which moves by the record's length (R118). -/
theorem afterDecode_eq (b0 b1 b2 : Byte) (s : State) :
    afterDecode b0 b1 b2 s =
      { s with
        cursor := s.cursor + (makeRecord s.params s.cursor s.load b0 b1 b2).length
        out := s.out ++ [makeRecord s.params s.cursor s.load b0 b1 b2] } := by
  simp only [makeRecord_length, ← Nat.add_assoc]
  rfl

/-- An instruction carries its bytes, as many as the ROM of the state says where that ROM fits it (R64). -/
theorem take_bytes_of_length {i : Instr} {n : Nat} (h : (encode i).length = 1 + n) :
    [i.byte 0, i.byte 1, i.byte 2].take (1 + n) = encode i := by
  rw [← h, encode_length, ← encode_eq_take]

/-- Settles O21: the state after the decode step has this record, and the cursor moves by the instruction's length. -/
theorem everyInstructionEmitsOneRecord : Obligations.EveryInstructionEmitsOneRecord := by
  unfold Obligations.EveryInstructionEmitsOneRecord
  intro i s hd hlen
  rw [← byte_zero] at hlen
  have hraw : (makeRecord s.params s.cursor s.load (i.byte 0) (i.byte 1) (i.byte 2)).rawBytes = encode i :=
    take_bytes_of_length hlen
  refine ⟨_, ?_, BitVec.toNat_ofNat _ _, hraw, ?_, hlen.symm, rfl⟩
  · rw [exec_of_decoding hd.1 hd.2 hlen, hlen]
    exact congrArg _ (afterDecode_eq _ _ _ _)
  · rw [makeRecord_rawBytes, Nat.add_comm, List.take_succ_cons, List.head?_cons]
    rfl

/-- Only a branch has a displacement (R143, R146). -/
theorem formatOperand_disp_isSome (f : RelFormat) (m : Mode) (b1 b2 : Byte) (c : Nat) (l : Addr) :
    (formatOperand f m b1 b2 c l).disp.isSome = true ↔ m = .relative := by
  cases m <;> simp [formatOperand, plainOperand]

/-- Only a branch has a target (R144, R146). -/
theorem formatOperand_target_isSome (f : RelFormat) (m : Mode) (b1 b2 : Byte) (c : Nat) (l : Addr) :
    (formatOperand f m b1 b2 c l).target.isSome = true ↔ m = .relative := by
  cases m <;> simp [formatOperand, plainOperand]

/-- The two modes without an operand byte have no operand value (R134, R135). -/
theorem formatOperand_value_eq_none (f : RelFormat) (m : Mode) (b1 b2 : Byte) (c : Nat) (l : Addr) :
    (formatOperand f m b1 b2 c l).value = none ↔ m = .accumulator ∨ m = .implied := by
  cases m <;> simp [formatOperand, plainOperand]

theorem formatOperand_text_of_no_value {f : RelFormat} {m : Mode} {b1 b2 : Byte} {c : Nat} {l : Addr}
    (h : (formatOperand f m b1 b2 c l).value = none) : (formatOperand f m b1 b2 c l).text = [] := by
  obtain rfl | rfl := (formatOperand_value_eq_none f m b1 b2 c l).1 h <;> rfl

/-- The first three bytes of an instruction followed by the buffer's next ones: the opcode byte and the operand bytes that
the decode step has, each the instruction's own where it carries it, else the buffer's (assumption 20). -/
theorem take_encode_append_bytesAt (i : Instr) (m : Memory) (c : Nat) :
    (encode i ++ bytesAt m (c + (encode i).length) 2).take 3 =
      [i.byte 0, (encode i).tail.getD 0 (Memory.read m (c + 1)), (encode i).tail.getD 1 (Memory.read m (c + 2))] := by
  have hlen := length_encode_tail i
  have hle : (encode i).length ≤ 3 := by rw [encode_eq_take]; simp
  rw [byte_zero]
  match h : encode i with
  | [] => simp [h] at hlen
  | [b0] => simp [bytesAt, List.range_succ]
  | [b0, b1] => simp [bytesAt, List.range_succ]
  | [b0, b1, b2] => simp
  | _ :: _ :: _ :: _ :: _ => simp only [h, List.length_cons] at hle; omega

/-- Settles O22: the record is made of the ROM entry of the opcode byte and of the bytes that the decode step has. -/
theorem recordRepeatsTheRomEntry : Obligations.RecordRepeatsTheRomEntry := by
  unfold Obligations.RecordRepeatsTheRomEntry
  refine ⟨fun i s t hexec => ?_, fun i s hd hfit => ?_⟩
  · rw [exec_eq_decodeStep, decodeStep_next_iff] at hexec
    obtain ⟨-, -, -, rfl⟩ := hexec
    have hmode := operandBytes_le (lookup s.params.rom (i.byte 0)).mode
    refine ⟨_, afterDecode_eq _ _ _ _, byte_zero i, rfl, rfl, ?_, rfl, formatOperand_disp_isSome _ _ _ _ _ _,
      formatOperand_target_isSome _ _ _ _ _ _, formatOperand_value_eq_none _ _ _ _ _ _, formatOperand_text_of_no_value⟩
    rw [makeRecord_rawBytes, ← take_encode_append_bytesAt i s.buf s.cursor, List.take_take,
      Nat.min_eq_left (by omega), makeRecord_length]
  · have hmode := operandBytes_le (lookup s.params.rom (i.byte 0)).mode
    exact ⟨_, (exec_eq_decodeStep i s).trans (decodeStep_of_decoding hd.1 hd.2 (.inr (by omega)))⟩

end Sys2Proof.Machine
end

section
/-! SUPPORT. A request from its accepted Start on, where the host presents nothing more (spec/41_decode_sequencer.md R113,
R118 to R121): the decode steps one after the other, how many there are, and what they list. Hence O48 and O49. -/

namespace Sys2Proof.Machine

/-- The state after the decode step of the bytes at the cursor: their record emitted, the cursor moved past them. -/
def afterRecord (s : State) : State :=
  setCursor (s.cursor + (recordAt s.params s.buf s.load s.cursor).length)
    (emit (recordAt s.params s.buf s.load s.cursor) s)

section
variable (s : State)

@[simp] theorem afterRecord_cursor :
    (afterRecord s).cursor = s.cursor + (recordAt s.params s.buf s.load s.cursor).length := rfl
@[simp] theorem afterRecord_out : (afterRecord s).out = s.out ++ [recordAt s.params s.buf s.load s.cursor] := rfl
@[simp] theorem afterRecord_phase : (afterRecord s).phase = s.phase := rfl
@[simp] theorem afterRecord_dataEnd : (afterRecord s).dataEnd = s.dataEnd := rfl
@[simp] theorem afterRecord_load : (afterRecord s).load = s.load := rfl
@[simp] theorem afterRecord_buf : (afterRecord s).buf = s.buf := rfl
@[simp] theorem afterRecord_params : (afterRecord s).params = s.params := rfl
@[simp] theorem afterRecord_hostMoves : (afterRecord s).hostMoves = s.hostMoves := rfl

end

theorem lt_afterRecord_cursor (s : State) : s.cursor < (afterRecord s).cursor :=
  Nat.lt_add_of_pos_right (recordAt_length s.params s.buf s.load s.cursor).1

/-- Decode steps leave all but OUT and the cursor as it stands. -/
theorem iterate_afterRecord_frame (k : Nat) (s : State) :
    (afterRecord^[k] s).phase = s.phase ∧ (afterRecord^[k] s).hostMoves = s.hostMoves ∧
      (afterRecord^[k] s).buf = s.buf ∧ (afterRecord^[k] s).out.length = s.out.length + k := by
  induction k generalizing s with
  | zero => exact ⟨rfl, rfl, rfl, rfl⟩
  | succ k ih =>
    obtain ⟨hphase, hmoves, hbuf, hout⟩ := ih (afterRecord s)
    exact ⟨hphase, hmoves, hbuf, hout.trans (by simp [Nat.add_assoc, Nat.add_comm 1])⟩

/-- Where the block decodes, the host presents nothing and the data and its pad lie in the buffer, the step is the decode
step of the bytes at the cursor (R114). -/
theorem step_of_decoding {s : State} (hd : s.Decoding) (hquiet : s.hostMoves = [])
    (hfit : s.dataEnd + Config.pad ≤ s.params.bufSize) : step s = .next (afterRecord s) := by
  have hlen := recordAt_length s.params s.buf s.load s.cursor
  have hc := hd.2
  simp only [Config.pad] at hfit
  rw [step_of_quiet hquiet]
  exact blockStep_of_decoding hd (by omega)

/-- As long as the block decodes, a run is a run of decode steps. -/
theorem run_of_decoding {k : Nat} {s : State} (hquiet : s.hostMoves = [])
    (hfit : s.dataEnd + Config.pad ≤ s.params.bufSize) (hd : ∀ j, j < k → (afterRecord^[j] s).Decoding) :
    run k s = .next (afterRecord^[k] s) := by
  induction k generalizing s with
  | zero => rfl
  | succ k ih =>
    have hfirst : s.Decoding := hd 0 k.succ_pos
    rw [run_succ_of_next (step_of_decoding hfirst hquiet hfit)]
    exact ih hquiet hfit fun j hj => hd (j + 1) (Nat.succ_lt_succ hj)

/-- From phase Busy on, with at most `n` bytes of data left, at most `n` decode steps lead to the end of the data: each
takes at least one byte (R121), and their records are the listing of these bytes. -/
theorem exists_decode_steps {n : Nat} {s : State} (hb : s.phase = .busy) (hn : s.dataEnd ≤ s.cursor + n) :
    ∃ k, k ≤ n ∧ (∀ j, j < k → (afterRecord^[j] s).Decoding) ∧
      (afterRecord^[k] s).dataEnd ≤ (afterRecord^[k] s).cursor ∧
      (afterRecord^[k] s).out = s.out ++ listing s.params s.buf s.load s.dataEnd n s.cursor := by
  induction n generalizing s with
  | zero => exact ⟨0, le_rfl, by simp, hn, by simp [listing]⟩
  | succ n ih =>
    by_cases hc : s.cursor < s.dataEnd
    · have hmove := lt_afterRecord_cursor s
      obtain ⟨k, hk, hd, hend, hout⟩ := ih (s := afterRecord s) hb (by rw [afterRecord_dataEnd]; omega)
      refine ⟨k + 1, Nat.succ_le_succ hk, fun j hj => ?_, hend, ?_⟩
      · cases j with
        | zero => exact ⟨hb, hc⟩
        | succ j => exact hd j (Nat.lt_of_succ_lt_succ hj)
      · simpa [listing, hc] using hout
    · exact ⟨0, Nat.zero_le _, by simp, Nat.not_lt.1 hc, by simp [listing, hc]⟩

/-- A run of one step more takes its last step where the run ends. -/
theorem run_succ_eq_step {k : Nat} {s u : State} (h : run k s = .next u) : run (k + 1) s = step u := by
  induction k generalizing s with
  | zero =>
    cases h
    cases hstep : step u <;> simp [run, hstep]
  | succ k ih =>
    cases hstep : step s with
    | next t =>
      rw [run_succ_of_next hstep] at h ⊢
      exact ih h
    | fault e => simp [run, hstep] at h
    | refused e => simp [run, hstep] at h

/-- After an accepted Start with the host presenting nothing more, at most LEN decode steps emit the listing of the data,
and the step after them is the finishing step (R119, R121). -/
theorem run_of_acceptedStart {s : State} {r : Request} (hb : s.phase ≠ .busy) (hmove : s.hostMoves = [.start r])
    (hfit : r.start + r.len + Config.pad ≤ s.params.bufSize) :
    ∃ k, k ≤ r.len ∧
      (∀ j, j ≤ k → run (j + 1) s = .next (afterRecord^[j] (acceptStart r (dropMove s)))) ∧
      run (k + 2) s = .next (finish (afterRecord^[k] (acceptStart r (dropMove s)))) ∧
      (afterRecord^[k] (acceptStart r (dropMove s))).out =
        listing s.params s.buf r.load (r.start + r.len) r.len r.start := by
  have hquiet : (acceptStart r (dropMove s)).hostMoves = [] := by simp [hmove]
  obtain ⟨k, hk, hd, hend, hout⟩ := exists_decode_steps (s := acceptStart r (dropMove s)) (n := r.len) rfl le_rfl
  have hrun : ∀ j, j ≤ k → run (j + 1) s = .next (afterRecord^[j] (acceptStart r (dropMove s))) := fun j hj => by
    rw [run_succ_of_next (step_of_acceptedStart hmove hb hfit)]
    exact run_of_decoding hquiet hfit fun i hi => hd i (hi.trans_le hj)
  obtain ⟨hphase, hmoves, -, -⟩ := iterate_afterRecord_frame k (acceptStart r (dropMove s))
  refine ⟨k, hk, hrun, ?_, hout⟩
  rw [run_succ_eq_step (hrun k le_rfl), step_of_quiet (hmoves.trans hquiet)]
  exact blockStep_of_end hphase hend

/-- Settles O48: the steps after the Start are those decode steps, of which each moves the cursor. -/
theorem requestEndsWithinLenPlusOneSteps : Obligations.RequestEndsWithinLenPlusOneSteps := by
  unfold Obligations.RequestEndsWithinLenPlusOneSteps
  intro s r hb hmove hfit
  obtain ⟨k, hk, hrun, hfinish, -⟩ := run_of_acceptedStart hb hmove hfit
  have hframe := fun j => iterate_afterRecord_frame j (acceptStart r (dropMove s))
  refine ⟨k, hk, fun j hj => ?_, _, hrun k le_rfl, (hframe k).1, ?_, hfinish⟩
  · refine ⟨_, _, hrun j hj.le, hrun (j + 1) hj, (hframe j).1, (hframe (j + 1)).1, ?_⟩
    rw [Function.iterate_succ_apply']
    exact ⟨lt_afterRecord_cursor _, _, afterRecord_out _⟩
  · obtain ⟨-, -, -, hlength⟩ := hframe k
    simpa using hlength

/-- Settles O49: the decode steps of the request emit the listing, and neither they nor the finishing step write the
buffer. -/
theorem finishedOutputIsTheListing : Obligations.FinishedOutputIsTheListing := by
  unfold Obligations.FinishedOutputIsTheListing
  intro s r hb hmove hfit
  obtain ⟨k, hk, -, hfinish, hout⟩ := run_of_acceptedStart hb hmove hfit
  obtain ⟨-, -, hbuf, -⟩ := iterate_afterRecord_frame k (acceptStart r (dropMove s))
  exact ⟨k + 2, _, Nat.add_le_add_right hk 2, hfinish, rfl, hbuf, hout⟩

end Sys2Proof.Machine
end

section
/-! SUPPORT. How OUT lies over the data of a request that runs on undisturbed (spec/41_decode_sequencer.md R120): an
invariant of such a run, and O50. It is said of any state that takes the Start, so it asks for less than `State.Inv`. -/

namespace Sys2Proof.Machine

/-- The request is the latest accepted one, the host presents nothing more, and OUT covers the request's bytes from START
to the cursor, in Done all of its data (R120). -/
structure Covers (r : Request) (s : State) : Prop where
  quiet : s.hostMoves = []
  tiles : Tiles s.load s.dataEnd r.start s.out s.cursor
  load : s.load = r.load
  dataEnd : s.dataEnd = r.start + r.len
  done : s.phase = .done → s.dataEnd ≤ s.cursor

/-- An accepted Start has no record yet, and is Busy (R112). -/
theorem covers_acceptStart {r : Request} {s : State} (hquiet : s.hostMoves = []) : Covers r (acceptStart r s) where
  quiet := hquiet
  tiles := rfl
  load := rfl
  dataEnd := rfl
  done := by simp

/-- A decode step appends a record that begins at the cursor, the finishing step waits for the end of the data. -/
theorem covers_step {r : Request} {s t : State} (h : Covers r s) (hstep : step s = .next t) : Covers r t := by
  rw [step_of_quiet h.quiet] at hstep
  obtain ⟨hd, -, rfl⟩ | ⟨-, hend, rfl⟩ | ⟨-, rfl⟩ := blockStep_next hstep
  · exact
      { quiet := h.quiet
        tiles := tiles_append.2 ⟨_, h.tiles, tiles_recordAt _ _ _ hd.2⟩
        load := h.load
        dataEnd := h.dataEnd
        done := fun hdone => by cases hd.1.symm.trans hdone }
  · exact ⟨h.quiet, h.tiles, h.load, h.dataEnd, fun _ => hend⟩
  · exact h

/-- What every step keeps holds after a run. -/
theorem run_preserves {P : State → Prop} (hP : ∀ s t, P s → step s = .next t → P t) {k : Nat} {s t : State} (h : P s)
    (hrun : run k s = .next t) : P t := by
  induction k generalizing s with
  | zero => cases hrun; exact h
  | succ k ih =>
    cases hstep : step s with
    | next u =>
      rw [run_succ_of_next hstep] at hrun
      exact ih (hP s u h hstep) hrun
    | fault e => simp [run, hstep] at hrun
    | refused e => simp [run, hstep] at hrun

/-- A tiling has no record only where there is nothing to cover. -/
theorem tiles_eq_nil_iff {l : Addr} {e c c' : Nat} {rs : List Record} (h : Tiles l e c rs c') (hend : e ≤ c') :
    rs = [] ↔ e ≤ c := by
  cases rs with
  | nil =>
    have hc : c = c' := h
    simpa [hc] using hend
  | cons r rs =>
    have hlt : c < e := h.1
    simpa using hlt

/-- Settles O50: the invariant of the run, in Done. -/
theorem finishedOutputCoversTheData : Obligations.FinishedOutputCoversTheData := by
  unfold Obligations.FinishedOutputCoversTheData
  intro s t r k hb hmove hfit hrun hdone
  rw [run_succ_of_next (step_of_acceptedStart hmove hb hfit)] at hrun
  obtain ⟨-, htiles, hload, hdata, hcovered⟩ : Covers r t :=
    run_preserves (fun _ _ => covers_step) (covers_acceptStart (by simp [hmove])) hrun
  have hend := hcovered hdone
  rw [hload, hdata] at htiles
  rw [hdata] at hend
  refine ⟨htiles, hend, tiles_le_pad htiles (by omega), ?_⟩
  rw [tiles_eq_nil_iff htiles hend]
  omega

end Sys2Proof.Machine
end

section
/-! SUPPORT. Which part of a record REL_FORMAT reaches (spec/42_operand_formatter.md R145, D7): the operand text of a branch
and the line made of it. Hence O58. -/

namespace Sys2Proof.Machine

/-- The layout decides nothing but the formatter's text (R145, R146). -/
theorem formatOperand_layout (f g : RelFormat) (m : Mode) (b1 b2 : Byte) (c : Nat) (l : Addr) :
    formatOperand g m b1 b2 c l =
      { formatOperand f m b1 b2 c l with text := (formatOperand g m b1 b2 c l).text } := by
  cases m <;> rfl

/-- Only a branch's operand is laid out (R145). -/
theorem formatOperand_of_ne_relative {m : Mode} (hm : m ≠ .relative) (f g : RelFormat) (b1 b2 : Byte) (c : Nat)
    (l : Addr) : formatOperand g m b1 b2 c l = formatOperand f m b1 b2 c l := by
  cases m
  case relative => exact absurd rfl hm
  all_goals rfl

/-- The parameters with another layout of branch operands. -/
abbrev withLayout (f : RelFormat) (p : Params) : Params := { p with relFormat := f }

/-- The layout reaches a record's operand text and line only. -/
theorem makeRecord_withLayout (p : Params) (f : RelFormat) (c : Nat) (l : Addr) (b0 b1 b2 : Byte) :
    makeRecord (withLayout f p) c l b0 b1 b2 =
      { makeRecord p c l b0 b1 b2 with
        operandText := (makeRecord (withLayout f p) c l b0 b1 b2).operandText
        lineText := (makeRecord (withLayout f p) c l b0 b1 b2).lineText } := by
  simp only [makeRecord]
  rw [formatOperand_layout p.relFormat f]
  rfl

theorem makeRecord_withLayout_of_ne_relative {p : Params} {b0 : Byte} (hm : (lookup p.rom b0).mode ≠ .relative)
    (f : RelFormat) (c : Nat) (l : Addr) (b1 b2 : Byte) :
    makeRecord (withLayout f p) c l b0 b1 b2 = makeRecord p c l b0 b1 b2 := by
  simp only [makeRecord]
  rw [formatOperand_of_ne_relative hm p.relFormat f]
  rfl

/-- Settles O58: with another layout the same bytes are decoded in the same way, and only the record differs. -/
theorem relativeLayoutChangesOnlyText : Obligations.RelativeLayoutChangesOnlyText := by
  unfold Obligations.RelativeLayoutChangesOnlyText
  intro i s t f hexec
  rw [exec_eq_decodeStep, decodeStep_next_iff] at hexec
  obtain ⟨hb, hc, hroom, rfl⟩ := hexec
  refine ⟨_, _, afterDecode_out _ _ _ _, ?_, makeRecord_withLayout s.params f _ _ _ _ _,
    fun hm => makeRecord_withLayout_of_ne_relative hm f _ _ _ _⟩
  rw [exec_eq_decodeStep]
  exact decodeStep_of_decoding (s := { s with params := withLayout f s.params }) hb hc hroom

end Sys2Proof.Machine
end

section
/-! SUPPORT. The digits of a number as text (spec/42_operand_formatter.md R130): O17. -/

namespace Sys2Proof.Machine

/-- A digit of R130 is the one that stands at its value in the list of the sixteen. -/
theorem getD_digits {k : Nat} (hk : k < 16) : "0123456789ABCDEF".toList.getD k '?' = hexDigit k := by
  have hdigits : "0123456789ABCDEF".toList = hexDigits := by decide
  have hlen : k < hexDigits.length := hk
  rw [hdigits, hexDigit, List.getD_eq_getElem _ _ hlen, List.getD_eq_getElem _ _ hlen]

/-- Settles O17: the digits are those of the value to the base 16. -/
theorem hexDigitsAreUpperCaseAndPadded : Obligations.HexDigitsAreUpperCaseAndPadded := by
  unfold Obligations.HexDigitsAreUpperCaseAndPadded
  refine ⟨fun v => ?_, fun v => ?_, by decide, by decide, by decide, by decide⟩
  · have hhi : v.toNat / 16 < 16 := by omega
    have hlo : v.toNat % 16 < 16 := by omega
    refine ⟨_, _, hhi, hlo, by omega, ?_⟩
    simp only [getD_digits, hhi, hlo, hex2]
  · have h3 : v.toNat / 4096 < 16 := by omega
    have h2 : v.toNat / 256 % 16 < 16 := by omega
    have h1 : v.toNat / 16 % 16 < 16 := by omega
    have h0 : v.toNat % 16 < 16 := by omega
    refine ⟨_, _, _, _, h3, h2, h1, h0, by omega, ?_⟩
    simp only [getD_digits, h3, h2, h1, h0, hex4]

end Sys2Proof.Machine
end

section
/-! SUPPORT. The displacement and the target of a branch (spec/42_operand_formatter.md R143, R144): O18 and O19. -/

namespace Sys2Proof.Machine

/-- The lower seven bits of a byte (R143). -/
theorem and_0x7F_toNat (b : Byte) : (b &&& 0x7F).toNat = b.toNat % 128 :=
  Nat.and_two_pow_sub_one_eq_mod b.toNat 7

/-- The top bit of a byte (R143). -/
theorem and_0x80_toNat (b : Byte) : (b &&& 0x80).toNat = if b.toNat < 128 then 0 else 128 := by
  have hbit : (b &&& 0x80).toNat = (b.toNat.testBit 7).toNat * 128 := Nat.and_two_pow b.toNat 7
  rw [hbit, Nat.testBit_eq_decide_div_mod_eq]
  split
  · have hlow : b.toNat / 2 ^ 7 % 2 = 0 := by omega
    rw [hlow]; rfl
  · have hhigh : b.toNat / 2 ^ 7 % 2 = 1 := by omega
    rw [hhigh]; rfl

/-- `sext_8` reads a byte as a two's-complement number (R7, R143). -/
theorem sext8_eq_toInt (b : Byte) : sext8 b = b.toInt := by
  rw [sext8, and_0x7F_toNat, and_0x80_toNat, BitVec.toInt_eq_toNat_cond]
  split <;> split <;> omega

/-- Settles O18: R143's formula is `sext8`, and its range is that of an 8-bit two's-complement number. -/
theorem displacementIsTwosComplement : Obligations.DisplacementIsTwosComplement := by
  unfold Obligations.DisplacementIsTwosComplement
  refine ⟨fun b => ⟨rfl, sext8_eq_toInt b, ?_, ?_, rfl⟩, by decide, by decide, by decide, by decide, by decide⟩
  · rw [sext8_eq_toInt]; exact b.le_toInt
  · rw [sext8_eq_toInt]; exact Int.le_of_lt_add_one b.toInt_lt

/-- A target is the sum over the integers, reduced modulo 65536 (R144). -/
theorem relTarget_toNat (c : Nat) (disp : Int) (load : Addr) :
    ((relTarget c disp load).toNat : Int) = ((c : Int) + 2 + disp + load.toNat) % 65536 := by
  rw [relTarget, BitVec.toNat_ofInt]
  exact Int.toNat_of_nonneg (Int.emod_nonneg _ (by decide))

/-- A branch back over its own two bytes targets its own address (R116, R144). -/
theorem relTarget_neg_two (c : Nat) (load : Addr) : relTarget c (-2) load = recordAddress c load := by
  have hsum : (c + 2 : Int) + -2 + load.toNat = ((c + load.toNat : Nat) : Int) := by push_cast; omega
  rw [relTarget, hsum, recordAddress, BitVec.ofInt_natCast]

/-- Settles O19: the sum, the branch to itself, and R144's corner cases. -/
theorem branchTargetIsReducedModulo65536 : Obligations.BranchTargetIsReducedModulo65536 := by
  unfold Obligations.BranchTargetIsReducedModulo65536
  exact ⟨relTarget_toNat, relTarget_neg_two, by decide, by decide, by decide⟩

end Sys2Proof.Machine
end

section
/-! SUPPORT. The record of an instruction other than a branch, from its opcode byte's entry and the formatter's arm of the
entry's mode (spec/41_decode_sequencer.md R115; spec/42_operand_formatter.md R131 to R142), and with it the rows of the
loads, stores and transfers (R200 to R211): O24, O25, O26. Which opcode bytes have a mnemonic is read off the 256 entries
of the default ROM. -/

namespace Sys2Proof.Machine

/-- Where the formatter gives a mode's operand no displacement and target, an instruction of that mode records as the entry
of its opcode byte and the formatter say (R115, R146): it carries as many operand bytes as the entry's mode has. -/
theorem recordsAs_of_entry {i : Instr} {b0 : Byte} {operands : List Byte} {name : String} {mode : Mode} {illegal : Bool}
    {text : Text} {value : Option OperandValue} (hbytes : encode i = b0 :: operands)
    (hentry : lookup defaultRom b0 = ⟨name.toList, mode, illegal⟩)
    (hformat : ∀ f c l, formatOperand f mode (i.byte 1) (i.byte 2) c l = plainOperand text value) :
    RecordsAs i name mode illegal (b0 :: operands) text value := by
  have hopcode : i.byte 0 = b0 := by rw [byte_zero, hbytes, List.headD_cons]
  have hlen : (encode i).length = 1 + mode.operandBytes := by rw [encode_length, hopcode, hentry]
  have hraw := take_bytes_of_length hlen
  rw [hopcode, ← hlen, hbytes] at hraw
  refine ⟨hbytes, hentry, fun s hd hrom => ?_⟩
  rw [List.headD_cons] at hrom
  rw [exec_of_decoding hd.1 hd.2 (by rw [hlen, hopcode, hrom]), afterDecode_eq, hopcode]
  simp only [makeRecord, hrom, hformat, ← hlen, hbytes, hraw]
  rfl

/-- An instruction of mode Implied is one byte and has no operand (R135). -/
theorem recordsAs_of_implied_entry {i : Instr} {b0 : Byte} {name : String} {illegal : Bool} (hbytes : encode i = [b0])
    (hentry : lookup defaultRom b0 = ⟨name.toList, .implied, illegal⟩) :
    RecordsAs i name .implied illegal [b0] [] none :=
  recordsAs_of_entry hbytes hentry fun _ _ _ => rfl

/-- Settles O24: each row is the entry of its opcode byte and the formatter's arm of that entry's mode. -/
theorem loadsDecodeToTheirRecords : Obligations.LoadsDecodeToTheirRecords := by
  unfold Obligations.LoadsDecodeToTheirRecords
  intro o lo hi
  have hlda : HasExactlyTheOpcodes "LDA" [0xA1, 0xA5, 0xA9, 0xAD, 0xB1, 0xB5, 0xB9, 0xBD] := forall_byte (by decide)
  have hldx : HasExactlyTheOpcodes "LDX" [0xA2, 0xA6, 0xAE, 0xB6, 0xBE] := forall_byte (by decide)
  have hldy : HasExactlyTheOpcodes "LDY" [0xA0, 0xA4, 0xAC, 0xB4, 0xBC] := forall_byte (by decide)
  refine ⟨hlda, ?_, ?_, ?_, ?_, ?_, ?_, ?_, ?_, hldx, ?_, ?_, ?_, ?_, ?_, hldy, ?_, ?_, ?_, ?_, ?_⟩
  all_goals exact recordsAs_of_entry rfl rfl fun _ _ _ => rfl

/-- Settles O25: each row is the entry of its opcode byte and the formatter's arm of that entry's mode. -/
theorem storesDecodeToTheirRecords : Obligations.StoresDecodeToTheirRecords := by
  unfold Obligations.StoresDecodeToTheirRecords
  intro o lo hi
  have hsta : HasExactlyTheOpcodes "STA" [0x81, 0x85, 0x8D, 0x91, 0x95, 0x99, 0x9D] := forall_byte (by decide)
  have hstx : HasExactlyTheOpcodes "STX" [0x86, 0x8E, 0x96] := forall_byte (by decide)
  have hsty : HasExactlyTheOpcodes "STY" [0x84, 0x8C, 0x94] := forall_byte (by decide)
  refine ⟨hsta, ?_, ?_, ?_, ?_, ?_, ?_, ?_, hstx, ?_, ?_, ?_, hsty, ?_, ?_, ?_⟩
  all_goals exact recordsAs_of_entry rfl rfl fun _ _ _ => rfl

/-- Settles O26: each opcode byte's entry has mode Implied. -/
theorem transfersDecodeToTheirRecords : Obligations.TransfersDecodeToTheirRecords := by
  unfold Obligations.TransfersDecodeToTheirRecords
  exact ⟨forall_byte (by decide), recordsAs_of_implied_entry rfl rfl,
    forall_byte (by decide), recordsAs_of_implied_entry rfl rfl,
    forall_byte (by decide), recordsAs_of_implied_entry rfl rfl,
    forall_byte (by decide), recordsAs_of_implied_entry rfl rfl,
    forall_byte (by decide), recordsAs_of_implied_entry rfl rfl,
    forall_byte (by decide), recordsAs_of_implied_entry rfl rfl⟩

end Sys2Proof.Machine
end

section
/-! SUPPORT. The rows of the arithmetic, logic and compare instructions (R212 to R220): O27, O28, O29. Each row is
`recordsAs_of_entry` at its opcode byte; which opcode bytes have a mnemonic is read off the 256 entries of the default
ROM. -/

namespace Sys2Proof.Machine

/-- Settles O27: each row is the entry of its opcode byte and the formatter's arm of that entry's mode. -/
theorem addAndSubtractDecodeToTheirRecords : Obligations.AddAndSubtractDecodeToTheirRecords := by
  unfold Obligations.AddAndSubtractDecodeToTheirRecords
  intro o lo hi
  have hadc : HasExactlyTheOpcodes "ADC" [0x61, 0x65, 0x69, 0x6D, 0x71, 0x75, 0x79, 0x7D] := forall_byte (by decide)
  have hsbc : HasExactlyTheOpcodes "SBC" [0xE1, 0xE5, 0xE9, 0xED, 0xF1, 0xF5, 0xF9, 0xFD] := forall_byte (by decide)
  refine ⟨hadc, ?_, ?_, ?_, ?_, ?_, ?_, ?_, ?_, hsbc, ?_, ?_, ?_, ?_, ?_, ?_, ?_, ?_⟩
  all_goals exact recordsAs_of_entry rfl rfl fun _ _ _ => rfl

/-- Settles O28: each row is the entry of its opcode byte and the formatter's arm of that entry's mode. -/
theorem logicDecodesToItsRecords : Obligations.LogicDecodesToItsRecords := by
  unfold Obligations.LogicDecodesToItsRecords
  intro o lo hi
  have hand : HasExactlyTheOpcodes "AND" [0x21, 0x25, 0x29, 0x2D, 0x31, 0x35, 0x39, 0x3D] := forall_byte (by decide)
  have hora : HasExactlyTheOpcodes "ORA" [0x01, 0x05, 0x09, 0x0D, 0x11, 0x15, 0x19, 0x1D] := forall_byte (by decide)
  have heor : HasExactlyTheOpcodes "EOR" [0x41, 0x45, 0x49, 0x4D, 0x51, 0x55, 0x59, 0x5D] := forall_byte (by decide)
  refine ⟨hand, ?_, ?_, ?_, ?_, ?_, ?_, ?_, ?_, hora, ?_, ?_, ?_, ?_, ?_, ?_, ?_, ?_, heor, ?_, ?_, ?_, ?_, ?_, ?_, ?_, ?_⟩
  all_goals exact recordsAs_of_entry rfl rfl fun _ _ _ => rfl

/-- Settles O29: each row is the entry of its opcode byte and the formatter's arm of that entry's mode. -/
theorem comparesDecodeToTheirRecords : Obligations.ComparesDecodeToTheirRecords := by
  unfold Obligations.ComparesDecodeToTheirRecords
  intro o lo hi
  have hcmp : HasExactlyTheOpcodes "CMP" [0xC1, 0xC5, 0xC9, 0xCD, 0xD1, 0xD5, 0xD9, 0xDD] := forall_byte (by decide)
  have hcpx : HasExactlyTheOpcodes "CPX" [0xE0, 0xE4, 0xEC] := forall_byte (by decide)
  have hcpy : HasExactlyTheOpcodes "CPY" [0xC0, 0xC4, 0xCC] := forall_byte (by decide)
  have hbit : HasExactlyTheOpcodes "BIT" [0x24, 0x2C] := forall_byte (by decide)
  refine ⟨hcmp, ?_, ?_, ?_, ?_, ?_, ?_, ?_, ?_, hcpx, ?_, ?_, ?_, hcpy, ?_, ?_, ?_, hbit, ?_, ?_⟩
  all_goals exact recordsAs_of_entry rfl rfl fun _ _ _ => rfl

end Sys2Proof.Machine
end

section
/-! SUPPORT. The rows of the shifts, increments and decrements (R221 to R230): O30, O31. Each row is `recordsAs_of_entry`
at its opcode byte, the one-byte rows with no operand byte at all (R134, R135). -/

namespace Sys2Proof.Machine

/-- An instruction of mode Accumulator is one byte and has no operand (R134). -/
theorem recordsAs_of_accumulator_entry {i : Instr} {b0 : Byte} {name : String} {illegal : Bool} (hbytes : encode i = [b0])
    (hentry : lookup defaultRom b0 = ⟨name.toList, .accumulator, illegal⟩) :
    RecordsAs i name .accumulator illegal [b0] [] none :=
  recordsAs_of_entry hbytes hentry fun _ _ _ => rfl

/-- Settles O30: each row is the entry of its opcode byte and the formatter's arm of that entry's mode. -/
theorem shiftsDecodeToTheirRecords : Obligations.ShiftsDecodeToTheirRecords := by
  unfold Obligations.ShiftsDecodeToTheirRecords
  intro o lo hi
  have hasl : HasExactlyTheOpcodes "ASL" [0x06, 0x0A, 0x0E, 0x16, 0x1E] := forall_byte (by decide)
  have hlsr : HasExactlyTheOpcodes "LSR" [0x46, 0x4A, 0x4E, 0x56, 0x5E] := forall_byte (by decide)
  have hrol : HasExactlyTheOpcodes "ROL" [0x26, 0x2A, 0x2E, 0x36, 0x3E] := forall_byte (by decide)
  have hror : HasExactlyTheOpcodes "ROR" [0x66, 0x6A, 0x6E, 0x76, 0x7E] := forall_byte (by decide)
  refine ⟨hasl, ?_, recordsAs_of_accumulator_entry rfl rfl, ?_, ?_, ?_,
    hlsr, ?_, recordsAs_of_accumulator_entry rfl rfl, ?_, ?_, ?_,
    hrol, ?_, recordsAs_of_accumulator_entry rfl rfl, ?_, ?_, ?_,
    hror, ?_, recordsAs_of_accumulator_entry rfl rfl, ?_, ?_, ?_⟩
  all_goals exact recordsAs_of_entry rfl rfl fun _ _ _ => rfl

/-- Settles O31: the memory rows are the formatter's arms of their entries' modes; the register rows have mode Implied. -/
theorem incrementsDecodeToTheirRecords : Obligations.IncrementsDecodeToTheirRecords := by
  unfold Obligations.IncrementsDecodeToTheirRecords
  intro o lo hi
  have hinc : HasExactlyTheOpcodes "INC" [0xE6, 0xEE, 0xF6, 0xFE] := forall_byte (by decide)
  have hdec : HasExactlyTheOpcodes "DEC" [0xC6, 0xCE, 0xD6, 0xDE] := forall_byte (by decide)
  refine ⟨hinc, ?_, ?_, ?_, ?_, hdec, ?_, ?_, ?_, ?_,
    forall_byte (by decide), recordsAs_of_implied_entry rfl rfl,
    forall_byte (by decide), recordsAs_of_implied_entry rfl rfl,
    forall_byte (by decide), recordsAs_of_implied_entry rfl rfl,
    forall_byte (by decide), recordsAs_of_implied_entry rfl rfl⟩
  all_goals exact recordsAs_of_entry rfl rfl fun _ _ _ => rfl

end Sys2Proof.Machine
end

section
/-! SUPPORT. The rows of the jumps and branches (R231 to R243): O32, O33. A jump's row is `recordsAs_of_entry` at its opcode
byte; the branches' rows have one lemma of their own, for only mode Relative gives a record displacement and target. -/

namespace Sys2Proof.Machine

/-- Settles O32: JMP and JSR are the formatter's arms of their entries' modes; RTS, RTI and BRK have mode Implied. -/
theorem jumpsDecodeToTheirRecords : Obligations.JumpsDecodeToTheirRecords := by
  unfold Obligations.JumpsDecodeToTheirRecords
  intro lo hi
  refine ⟨forall_byte (by decide), ?_, ?_,
    forall_byte (by decide), ?_,
    forall_byte (by decide), recordsAs_of_implied_entry rfl rfl,
    forall_byte (by decide), recordsAs_of_implied_entry rfl rfl,
    forall_byte (by decide), recordsAs_of_implied_entry rfl rfl⟩
  all_goals exact recordsAs_of_entry rfl rfl fun _ _ _ => rfl

/-- The sign character of R145 as text. -/
theorem singleton_sign (d : Int) : [sign d] = if d ≥ 0 then "+".toList else "-".toList := by
  unfold sign
  split <;> rfl

/-- A documented instruction of mode Relative records as the formatter's one arm with displacement and target says (R143
to R145): the displacement is its operand byte's two's-complement reading. -/
theorem branchesAs_of_entry {i : Instr} {name : String} {opcode o : Byte} (hbytes : encode i = [opcode, o])
    (hentry : lookup defaultRom opcode = ⟨name.toList, .relative, false⟩) : BranchesAs i name opcode o := by
  have hopcode : i.byte 0 = opcode := by rw [byte_zero, hbytes, List.headD_cons]
  have hoperand : i.byte 1 = o := by rw [Instr.byte, hbytes]; rfl
  refine ⟨hbytes, hentry, fun s hd hrom => ?_⟩
  have hexec := exec_of_decoding (i := i) hd.1 hd.2 (by rw [hopcode, hrom, hbytes]; rfl)
  rw [hexec, afterDecode_eq, hopcode, hoperand, ← sext8_eq_toInt]
  simp only [makeRecord, hrom, formatOperand, ← singleton_sign]
  rfl

/-- Settles O33: each branch's entry is documented and of mode Relative. -/
theorem branchesDecodeToTheirRecords : Obligations.BranchesDecodeToTheirRecords := by
  unfold Obligations.BranchesDecodeToTheirRecords
  intro o
  exact ⟨forall_byte (by decide), branchesAs_of_entry rfl rfl, forall_byte (by decide), branchesAs_of_entry rfl rfl,
    forall_byte (by decide), branchesAs_of_entry rfl rfl, forall_byte (by decide), branchesAs_of_entry rfl rfl,
    forall_byte (by decide), branchesAs_of_entry rfl rfl, forall_byte (by decide), branchesAs_of_entry rfl rfl,
    forall_byte (by decide), branchesAs_of_entry rfl rfl, forall_byte (by decide), branchesAs_of_entry rfl rfl⟩

end Sys2Proof.Machine
end

section
/-! SUPPORT. Which part of a record ILLEGAL_MNEMONICS reaches (spec/48_undocumented.md R281; spec/40_opcode_lookup.md R104):
the mnemonic of an illegal record and the line made of it. Hence O57. -/

namespace Sys2Proof.Machine

/-- The parameters with other spellings of the undocumented mnemonics. -/
abbrev withSpellings (names : List (Text × Text)) (p : Params) : Params := { p with illegalMnemonics := names }

/-- The spellings reach a record's mnemonic and line only. -/
theorem makeRecord_withSpellings (p : Params) (names : List (Text × Text)) (c : Nat) (l : Addr) (b0 b1 b2 : Byte) :
    makeRecord (withSpellings names p) c l b0 b1 b2 =
      { makeRecord p c l b0 b1 b2 with
        mnemonic := (makeRecord (withSpellings names p) c l b0 b1 b2).mnemonic
        lineText := (makeRecord (withSpellings names p) c l b0 b1 b2).lineText } := rfl

/-- A documented mnemonic is emitted in one spelling only (R72). -/
theorem makeRecord_withSpellings_of_documented {p : Params} {b0 : Byte} (h : (lookup p.rom b0).illegal = false)
    (names : List (Text × Text)) (c : Nat) (l : Addr) (b1 b2 : Byte) :
    makeRecord (withSpellings names p) c l b0 b1 b2 = makeRecord p c l b0 b1 b2 := by
  simp only [makeRecord, emittedMnemonic_of_documented _ h]

/-- Settles O57: with other spellings the same bytes are decoded in the same way, and only the record differs. -/
theorem illegalSpellingsChangeOnlyText : Obligations.IllegalSpellingsChangeOnlyText := by
  unfold Obligations.IllegalSpellingsChangeOnlyText
  intro i s t names hexec
  rw [exec_eq_decodeStep, decodeStep_next_iff] at hexec
  obtain ⟨hb, hc, hroom, rfl⟩ := hexec
  refine ⟨_, _, afterDecode_out _ _ _ _, ?_, makeRecord_withSpellings s.params names _ _ _ _ _, rfl,
    fun hdoc => makeRecord_withSpellings_of_documented hdoc names _ _ _ _⟩
  rw [exec_eq_decodeStep]
  exact decodeStep_of_decoding (s := { s with params := withSpellings names s.params }) hb hc hroom

end Sys2Proof.Machine
end

section
/-! SUPPORT. The step by the host's move in it, said as an equation for each move (spec/60_exceptions.md R302, R305, R315;
spec/70_reset_and_hazards.md R332), and the statements about a Start, a reset and a host write: O4, O5, O6 and O10. -/

namespace Sys2Proof.Machine

section
variable {s : State} {more : List HostMove}

theorem step_of_start {r : Request} (h : s.hostMoves = .start r :: more) :
    step s = .next (startCommand r { s with hostMoves := more }) := by
  simp [step, stepOf, dropMove, h]

theorem step_of_reset (h : s.hostMoves = .reset :: more) :
    step s = .next (resetBlock { s with hostMoves := more }) := by
  simp [step, stepOf, dropMove, h]

/-- A reset has priority over a Start of the same step (R305). -/
theorem step_of_resetAndStart {r : Request} (h : s.hostMoves = .resetAndStart r :: more) :
    step s = .next (resetBlock { s with hostMoves := more }) := by
  simp [step, stepOf, dropMove, h]

theorem step_of_write {o : Nat} {v : Byte} (h : s.hostMoves = .write o v :: more) :
    step s = hostWrite o v { s with hostMoves := more } := by
  simp [step, stepOf, dropMove, h]

end

/-- A Start is refused as Busy while a request runs, whatever else speaks against it (R302, R305). -/
theorem startCommand_of_busy {s : State} (hb : s.phase = .busy) (r : Request) :
    startCommand r s = refuseStart .busy s := by
  simp [startCommand, startRefusal, hb]

/-- A Start whose data and pad do not fit is refused as OutOfBuffer where the block is not Busy (R302). -/
theorem startCommand_of_tooBig {s : State} {r : Request} (hb : s.phase ≠ .busy)
    (hbig : s.params.bufSize < r.start + r.len + Config.pad) : startCommand r s = refuseStart .outOfBuffer s := by
  simp [startCommand, startRefusal, hb, hbig]

/-- Settles O4: a Start meets one of the two refusals, and those are all the reasons. -/
theorem refusedStartChangesNothing : Obligations.RefusedStartChangesNothing := by
  unfold Obligations.RefusedStartChangesNothing
  refine ⟨fun s r more hmove => ⟨fun hb => ?_, fun hb hbig => ?_⟩, fun code => ?_, rfl, rfl⟩
  · rw [step_of_start hmove, startCommand_of_busy (s := { s with hostMoves := more }) hb]
    rfl
  · rw [step_of_start hmove, startCommand_of_tooBig (s := { s with hostMoves := more }) hb hbig]
    rfl
  · cases code
    case busy => exact .inl rfl
    case outOfBuffer => exact .inr rfl

/-- Settles O5: Busy is asked first, and the reset of both steps is the same one. -/
theorem resetWinsAndBusyIsReportedFirst : Obligations.ResetWinsAndBusyIsReportedFirst := by
  unfold Obligations.ResetWinsAndBusyIsReportedFirst
  refine fun s r more => ⟨fun hmove hb _ => ?_, fun hmove => ?_⟩
  · exact ⟨_, step_of_start hmove,
      congrArg State.reply (startCommand_of_busy (s := { s with hostMoves := more }) hb r)⟩
  · exact ⟨_, step_of_resetAndStart hmove, step_of_reset (s := { s with hostMoves := .reset :: more }) rfl,
      resetBlock_phase _, resetBlock_out _⟩

/-- In Idle the three registers cannot be read (R331). -/
theorem reads_of_idle {s : State} (hi : s.phase = .idle) :
    readCursor s = .error (.unwrittenRegister .cursor) ∧ readDataEnd s = .error (.unwrittenRegister .dataEnd) ∧
      readLoad s = .error (.unwrittenRegister .load) :=
  ⟨readRegister_of_idle hi _ _, readRegister_of_idle hi _ _, readRegister_of_idle hi _ _⟩

/-- In the other phases the reads give the registers. -/
theorem reads_of_not_idle {s : State} (hi : s.phase ≠ .idle) :
    readCursor s = .ok s.cursor ∧ readDataEnd s = .ok s.dataEnd ∧ readLoad s = .ok s.load :=
  ⟨readRegister_of_ne hi _ _, readRegister_of_ne hi _ _, readRegister_of_ne hi _ _⟩

/-- Settles O6: a reset takes the block to Idle, and what lies outside the block passes through it unread. -/
theorem resetAbandonsTheRequest : Obligations.ResetAbandonsTheRequest := by
  unfold Obligations.ResetAbandonsTheRequest
  intro s more hmove
  obtain ⟨hcursor, hdataEnd, hload⟩ := reads_of_idle (resetBlock_phase { s with hostMoves := more })
  exact ⟨_, step_of_reset hmove, resetBlock_phase _, resetBlock_out _, hcursor, hdataEnd, hload, resetBlock_buf _,
    resetBlock_params _, resetBlock_hostMoves _, fun m => step_of_reset (s := { s with buf := m }) hmove⟩

theorem hostWrite_of_protected {s : State} {o : Nat} (v : Byte) (ho : o < s.params.bufSize)
    (hp : isProtected s o = true) : hostWrite o v s = .refused (.hostWriteProtected o) := by
  simp [hostWrite, Nat.not_le.2 ho, hp]

theorem hostWrite_of_outside {s : State} {o : Nat} (v : Byte) (ho : s.params.bufSize ≤ o) :
    hostWrite o v s = .refused (.hostWriteOutsideBuf o) := if_pos ho

/-- Settles O10: the three outcomes of a host write, and what the buffer reads as after it. -/
theorem hostWriteIsOneByteOrRefused : Obligations.HostWriteIsOneByteOrRefused := by
  unfold Obligations.HostWriteIsOneByteOrRefused
  intro s o v more hwf hmove
  rw [step_of_write hmove]
  refine ⟨fun ho hfree => ?_, fun ho hb hlo hhi => ?_, fun ho => hostWrite_of_outside v ho⟩
  · exact ⟨_, hostWrite_of_dutiful v ho (isProtected_eq_false.2 hfree), Memory.write_wf hwf o v,
      Memory.read_write_same hwf o v, fun x hx => Memory.read_write_other hwf v hx.symm⟩
  · exact hostWrite_of_protected v ho (isProtected_eq_true.2 ⟨hb, hlo, hhi⟩)

end Sys2Proof.Machine
end

section
/-! SUPPORT. The reset state and phase Idle (spec/70_reset_and_hazards.md R330, R331): which reads fault there, that no step
makes one, and that reset meets the invariant. Hence O7, O8 and O42. -/

namespace Sys2Proof.Machine

/-- Settles O7: reset is in Idle. -/
theorem resetLeavesIdleAndEmpty : Obligations.ResetLeavesIdleAndEmpty := by
  unfold Obligations.ResetLeavesIdleAndEmpty
  exact ⟨rfl, rfl, reads_of_idle rfl⟩

theorem hostWrite_ne_fault (o : Nat) (v : Byte) (s : State) (e : Fault) : hostWrite o v s ≠ .fault e := by
  unfold hostWrite
  split
  · simp
  · split <;> simp

/-- Only the block's own step can fault, and only while Busy: elsewhere it reads nothing (R124). -/
theorem step_fault_busy {s : State} {e : Fault} (h : step s = .fault e) : s.phase = .busy := by
  by_contra hb
  match hmove : s.hostMoves with
  | [] => simp [step_of_quiet hmove, blockStep_of_not_busy hb] at h
  | .pass :: more =>
    rw [step_of_pass hmove, blockStep_of_not_busy (s := { s with hostMoves := more }) hb] at h
    cases h
  | .start r :: more => rw [step_of_start hmove] at h; cases h
  | .reset :: more => rw [step_of_reset hmove] at h; cases h
  | .resetAndStart r :: more => rw [step_of_resetAndStart hmove] at h; cases h
  | .write o v :: more => exact hostWrite_ne_fault _ _ _ _ ((step_of_write hmove).symm.trans h)

/-- A step leaves Idle only by accepting a Start (R26, R111). -/
theorem step_from_idle {s t : State} (hi : s.phase = .idle) (h : step s = .next t) :
    t.phase = .idle ∨ (t.phase = .busy ∧ t.reply = some .accepted) := by
  obtain ⟨hkeep, -⟩ | ⟨hb, -⟩ | ⟨-, -, hreply, hbusy, -⟩ | ⟨-, hidle, -⟩ := step_phase_out h
  · exact .inl (hkeep.trans hi)
  · cases hi.symm.trans hb
  · exact .inr ⟨hbusy, hreply⟩
  · exact .inl hidle

/-- Settles O8: in Idle the reads fault, the meaning of an instruction with them, and a step faults only while Busy. -/
theorem unwrittenRegistersFaultAndNoStepReadsThem : Obligations.UnwrittenRegistersFaultAndNoStepReadsThem := by
  unfold Obligations.UnwrittenRegistersFaultAndNoStepReadsThem
  refine ⟨fun s hi => ?_, fun s => reads_of_not_idle⟩
  obtain ⟨hcursor, hdataEnd, hload⟩ := reads_of_idle hi
  refine ⟨hcursor, hdataEnd, hload, fun i => ?_, fun reg hfault => ?_, fun t => step_from_idle hi⟩
  · rw [exec_eq_decodeStep, decodeStep_of_idle hi]
  · cases hi.symm.trans (step_fault_busy hfault)

/-- R101 is a condition on the entry of every opcode byte. -/
theorem romFits_iff {p : Params} : p.romFits = true ↔ ∀ b, (lookup p.rom b).wellFormed = true := by
  simp only [Params.romFits, Vector.all_eq_true]
  refine ⟨fun h b => h _ _ _ _, fun h row hrow column hcolumn => ?_⟩
  have hentry : lookup p.rom (BitVec.ofNat 8 (16 * row + column)) = p.rom[row][column] := by
    have hb : (BitVec.ofNat 8 (16 * row + column)).toNat = 16 * row + column := by
      rw [BitVec.toNat_ofNat]; omega
    have hdiv : (16 * row + column) / 16 = row := by omega
    have hmod : (16 * row + column) % 16 = column := by omega
    simp only [lookup, hb, hdiv, hmod]
  exact hentry ▸ h _

/-- The parameters at reset are a choice that the spec allows (R5, R101, R281): every entry of the default ROM is well
formed. -/
theorem resetParams_wellFormed : Config.resetParams.wellFormed = true :=
  params_wellFormed_iff.2 ⟨by decide, rfl, romFits_iff.2 lookup_defaultRom_wellFormed⟩

/-- Settles O42: a state in Idle with OUT and the buffer empty has only its parameters to check. -/
theorem resetMeetsTheInvariant : Obligations.ResetMeetsTheInvariant := by
  unfold Obligations.ResetMeetsTheInvariant
  exact
    { params := resetParams_wellFormed
      bufWf := reset_buf_wf
      bufIn := by simp [State.reset]
      idle := fun _ => rfl
      ascii := by simp [State.reset]
      inBuf := fun hi => absurd rfl hi
      tiles := fun hi => absurd rfl hi
      lists := by simp [State.reset]
      done := by simp [State.reset] }

end Sys2Proof.Machine
end

section
/-! SUPPORT. Under the invariant nothing stops a step but a forbidden move of the host (spec/60_exceptions.md R300, R301,
R315), and the first record of a window stands at the window's own address (spec/70_reset_and_hazards.md R334): O44, O45 and
O59. -/

namespace Sys2Proof.Machine

/-- A running request's data and pad lie in the buffer (R111). -/
theorem fits_of_inv {s : State} (h : s.Inv) (hb : s.phase = .busy) : s.dataEnd + Config.pad ≤ s.params.bufSize :=
  (h.inBuf (by simp [hb])).2

/-- Settles O44: the block's own step finds its bytes in the buffer, a Start and a reset are always answered, and a dutiful
host's write is made. -/
theorem stepsAlwaysComplete : Obligations.StepsAlwaysComplete := by
  unfold Obligations.StepsAlwaysComplete
  intro s hinv hduty
  have hfit : s.phase = .busy → s.dataEnd + Config.pad ≤ s.params.bufSize := fits_of_inv hinv
  match hmove : s.hostMoves with
  | [] => exact step_of_quiet hmove ▸ blockStep_total hfit
  | .pass :: more => exact step_of_pass hmove ▸ blockStep_total (s := { s with hostMoves := more }) hfit
  | .start r :: more => exact ⟨_, step_of_start hmove⟩
  | .reset :: more => exact ⟨_, step_of_reset hmove⟩
  | .resetAndStart r :: more => exact ⟨_, step_of_resetAndStart hmove⟩
  | .write o v :: more =>
    obtain ⟨ho, hfree⟩ := hduty o v more hmove
    exact ⟨_, (step_of_write hmove).trans (hostWrite_of_dutiful v ho hfree)⟩

/-- The raw bytes of the record at an offset are the buffer's bytes there (R115). -/
theorem recordAt_rawBytes (p : Params) (m : Memory) (l : Addr) (c : Nat) :
    (recordAt p m l c).rawBytes = bytesAt m c (recordAt p m l c).length := by
  obtain ⟨-, hle, -⟩ := recordAt_length p m l c
  rw [← take_bytesAt m c hle]
  rfl

/-- Settles O45: before the end of the data the step is the decode step of the bytes at the cursor, at the end the finishing
step. -/
theorem busyStepNeverRaises : Obligations.BusyStepNeverRaises := by
  unfold Obligations.BusyStepNeverRaises
  intro s hinv hb hquiet
  have hfit := fits_of_inv hinv hb
  refine ⟨fun hc => ?_, fun hend => (step_of_quiet hquiet).trans (blockStep_of_end hb hend)⟩
  obtain ⟨-, hle, -⟩ := recordAt_length s.params s.buf s.load s.cursor
  simp only [Config.pad] at hfit
  exact ⟨recordAt s.params s.buf s.load s.cursor, step_of_decoding ⟨hb, hc⟩ hquiet hfit, rfl, rfl, by omega,
    recordAt_rawBytes _ _ _ _⟩

/-- The byte of CPU address `A` of a file loaded at `L` has the offset `A - L`, and that offset's address is `A`, modulo
65536 (R44, R334). -/
theorem recordAddress_sub {A : Nat} {L : Addr} (h : L.toNat ≤ A) : (recordAddress (A - L.toNat) L).toNat = A % 65536 := by
  rw [recordAddress, Nat.sub_add_cancel h, BitVec.toNat_ofNat]

/-- Settles O59: the Start is accepted, and the step after it decodes the bytes at START. -/
theorem windowStartsAtItsOwnAddress : Obligations.WindowStartsAtItsOwnAddress := by
  unfold Obligations.WindowStartsAtItsOwnAddress
  intro s L A len hb hmove hA hlen hfit
  have hdecode := step_of_decoding (s := acceptStart ⟨L, A - L.toNat, len⟩ (dropMove s))
    ⟨rfl, Nat.lt_add_of_pos_right hlen⟩ (by simp [hmove]) hfit
  have hrun : run 2 s = .next (afterRecord (acceptStart ⟨L, A - L.toNat, len⟩ (dropMove s))) :=
    (run_succ_of_next (step_of_acceptedStart hmove hb hfit) 1).trans (run_succ_of_next hdecode 0)
  exact ⟨_, recordAt _ _ _ _, hrun, afterRecord_out _, recordAddress_sub hA⟩

end Sys2Proof.Machine
end

section
/-! SUPPORT. The rows of the flag and stack instructions and of NOP (R244 to R255): O34, O35. All have mode Implied. -/

namespace Sys2Proof.Machine

/-- Settles O34: each opcode byte's entry is documented and has mode Implied. -/
theorem flagInstructionsDecodeToTheirRecords : Obligations.FlagInstructionsDecodeToTheirRecords := by
  unfold Obligations.FlagInstructionsDecodeToTheirRecords
  exact ⟨forall_byte (by decide), recordsAs_of_implied_entry rfl rfl,
    forall_byte (by decide), recordsAs_of_implied_entry rfl rfl,
    forall_byte (by decide), recordsAs_of_implied_entry rfl rfl,
    forall_byte (by decide), recordsAs_of_implied_entry rfl rfl,
    forall_byte (by decide), recordsAs_of_implied_entry rfl rfl,
    forall_byte (by decide), recordsAs_of_implied_entry rfl rfl,
    forall_byte (by decide), recordsAs_of_implied_entry rfl rfl⟩

/-- Settles O35: each opcode byte's entry is documented and has mode Implied. -/
theorem stackAndNopDecodeToTheirRecords : Obligations.StackAndNopDecodeToTheirRecords := by
  unfold Obligations.StackAndNopDecodeToTheirRecords
  exact ⟨forall_byte (by decide), recordsAs_of_implied_entry rfl rfl,
    forall_byte (by decide), recordsAs_of_implied_entry rfl rfl,
    forall_byte (by decide), recordsAs_of_implied_entry rfl rfl,
    forall_byte (by decide), recordsAs_of_implied_entry rfl rfl,
    forall_byte (by decide), recordsAs_of_implied_entry rfl rfl⟩

end Sys2Proof.Machine
end

section
/-! SUPPORT. The rows of the undocumented opcodes (R260 to R280): O36 to O41. Each row is `recordsAs_of_entry` at its opcode
byte, whose entry is illegal, so that the record shows the spelling of R281. -/

namespace Sys2Proof.Machine

/-- Settles O36: each row is the entry of its opcode byte and the formatter's arm of that entry's mode. -/
theorem shiftCombinationsDecodeToTheirRecords : Obligations.ShiftCombinationsDecodeToTheirRecords := by
  unfold Obligations.ShiftCombinationsDecodeToTheirRecords
  intro o lo hi
  have hslo : HasExactlyTheOpcodes "slo" [0x03, 0x07, 0x0F, 0x13, 0x17, 0x1B, 0x1F] := forall_byte (by decide)
  have hrla : HasExactlyTheOpcodes "rla" [0x23, 0x27, 0x2F, 0x33, 0x37, 0x3B, 0x3F] := forall_byte (by decide)
  have hsre : HasExactlyTheOpcodes "sre" [0x43, 0x47, 0x4F, 0x53, 0x57, 0x5B, 0x5F] := forall_byte (by decide)
  have hrra : HasExactlyTheOpcodes "rra" [0x63, 0x67, 0x6F, 0x73, 0x77, 0x7B, 0x7F] := forall_byte (by decide)
  refine ⟨hslo, ?_, ?_, ?_, ?_, ?_, ?_, ?_, hrla, ?_, ?_, ?_, ?_, ?_, ?_, ?_, hsre, ?_, ?_, ?_, ?_, ?_, ?_, ?_, hrra,
    ?_, ?_, ?_, ?_, ?_, ?_, ?_⟩
  all_goals exact recordsAs_of_entry rfl rfl fun _ _ _ => rfl

/-- Settles O37: each row is the entry of its opcode byte and the formatter's arm of that entry's mode. -/
theorem storeAndCompareCombinationsDecodeToTheirRecords : Obligations.StoreAndCompareCombinationsDecodeToTheirRecords := by
  unfold Obligations.StoreAndCompareCombinationsDecodeToTheirRecords
  intro o lo hi
  have hsax : HasExactlyTheOpcodes "sax" [0x83, 0x87, 0x8F, 0x97] := forall_byte (by decide)
  have hlax : HasExactlyTheOpcodes "lax" [0xA3, 0xA7, 0xAB, 0xAF, 0xB3, 0xB7, 0xBF] := forall_byte (by decide)
  have hdcp : HasExactlyTheOpcodes "dcp" [0xC3, 0xC7, 0xCF, 0xD3, 0xD7, 0xDB, 0xDF] := forall_byte (by decide)
  have hisc : HasExactlyTheOpcodes "isc" [0xE3, 0xE7, 0xEF, 0xF3, 0xF7, 0xFB, 0xFF] := forall_byte (by decide)
  refine ⟨hsax, ?_, ?_, ?_, ?_, hlax, ?_, ?_, ?_, ?_, ?_, ?_, ?_, hdcp, ?_, ?_, ?_, ?_, ?_, ?_, ?_, hisc, ?_, ?_, ?_,
    ?_, ?_, ?_, ?_⟩
  all_goals exact recordsAs_of_entry rfl rfl fun _ _ _ => rfl

/-- Settles O38: each row is the entry of its opcode byte and the formatter's arm of that entry's mode. -/
theorem undocumentedImmediatesDecodeToTheirRecords : Obligations.UndocumentedImmediatesDecodeToTheirRecords := by
  unfold Obligations.UndocumentedImmediatesDecodeToTheirRecords
  intro o
  have hanc : HasExactlyTheOpcodes "anc" [0x0B, 0x2B] := forall_byte (by decide)
  have halr : HasExactlyTheOpcodes "alr" [0x4B] := forall_byte (by decide)
  have harr : HasExactlyTheOpcodes "arr" [0x6B] := forall_byte (by decide)
  have hxaa : HasExactlyTheOpcodes "xaa" [0x8B] := forall_byte (by decide)
  have haxs : HasExactlyTheOpcodes "axs" [0xCB] := forall_byte (by decide)
  have hsbc : HasExactlyTheOpcodes "sbc" [0xEB] := forall_byte (by decide)
  refine ⟨hanc, ?_, ?_, halr, ?_, harr, ?_, hxaa, ?_, haxs, ?_, hsbc, ?_⟩
  all_goals exact recordsAs_of_entry rfl rfl fun _ _ _ => rfl

/-- Settles O39: each row is the entry of its opcode byte and the formatter's arm of that entry's mode. -/
theorem unstableStoresDecodeToTheirRecords : Obligations.UnstableStoresDecodeToTheirRecords := by
  unfold Obligations.UnstableStoresDecodeToTheirRecords
  intro o lo hi
  have hahx : HasExactlyTheOpcodes "ahx" [0x93, 0x9F] := forall_byte (by decide)
  have htas : HasExactlyTheOpcodes "tas" [0x9B] := forall_byte (by decide)
  have hshy : HasExactlyTheOpcodes "shy" [0x9C] := forall_byte (by decide)
  have hshx : HasExactlyTheOpcodes "shx" [0x9E] := forall_byte (by decide)
  have hlas : HasExactlyTheOpcodes "las" [0xBB] := forall_byte (by decide)
  refine ⟨hahx, ?_, ?_, htas, ?_, hshy, ?_, hshx, ?_, hlas, ?_⟩
  all_goals exact recordsAs_of_entry rfl rfl fun _ _ _ => rfl

/-- Settles O40: each row is the entry of its opcode byte and the formatter's arm of that entry's mode. -/
theorem undocumentedNopsDecodeToTheirRecords : Obligations.UndocumentedNopsDecodeToTheirRecords := by
  unfold Obligations.UndocumentedNopsDecodeToTheirRecords
  intro o lo hi
  have hnop : HasExactlyTheOpcodes "nop"
      [0x04, 0x0C, 0x14, 0x1A, 0x1C, 0x34, 0x3A, 0x3C, 0x44, 0x54, 0x5A, 0x5C, 0x64, 0x74, 0x7A, 0x7C,
        0x80, 0x82, 0x89, 0xC2, 0xD4, 0xDA, 0xDC, 0xE2, 0xF4, 0xFA, 0xFC] :=
    forall_byte (by decide)
  refine ⟨hnop, ?_, ?_, ?_, ?_, ?_, ?_, ?_, ?_, ?_, ?_, ?_, ?_, ?_, ?_, ?_, ?_, ?_, ?_, ?_, ?_, ?_, ?_, ?_, ?_, ?_,
    ?_, ?_⟩
  all_goals exact recordsAs_of_entry rfl rfl fun _ _ _ => rfl

/-- Settles O41: each opcode byte's entry has mode Implied, and the decode step keeps the phase. -/
theorem kilDecodesAndDecodingContinues : Obligations.KilDecodesAndDecodingContinues := by
  unfold Obligations.KilDecodesAndDecodingContinues
  have hkil : HasExactlyTheOpcodes "kil"
      [0x02, 0x12, 0x22, 0x32, 0x42, 0x52, 0x62, 0x72, 0x92, 0xB2, 0xD2, 0xF2] :=
    forall_byte (by decide)
  refine ⟨hkil, ?_, ?_, ?_, ?_, ?_, ?_, ?_, ?_, ?_, ?_, ?_, ?_⟩
  all_goals exact recordsAs_of_implied_entry rfl rfl

end Sys2Proof.Machine
end
